-- ==== Sys2Proof/Word.lean ====
section
/-! DEFINITION. The word types of the machine and their plainest arithmetic: bytes, 16-bit words, the program
counter's 22-bit carrier, register numbers (00_scope.md R5, R8; 10_state.md R24). -/

namespace Sys2Proof

/-- A byte: a general register, an SFR, a data-space or program-memory byte (R5, R20). -/
abbrev Byte := BitVec 8

/-- A 16-bit word: an instruction word, a pointer pair, a data-space address (R21, R35, R100). -/
abbrev Word := BitVec 16

/-- The carrier of the program counter: the wider of the two widths the family has (R24). -/
abbrev PcWord := BitVec 22

/-- The number of a general register, 0..31 (R20). -/
abbrev Reg := BitVec 5

/-- Bits 7..0 of a 16-bit value (R8, R83 `LOW`). -/
def lowByte (v : Word) : Byte := v.extractLsb' 0 8

/-- Bits 15..8 of a 16-bit value (R8, R83 `HIGH`). -/
def highByte (v : Word) : Byte := v.extractLsb' 8 8

end Sys2Proof
end

