-- ==== Sys2Proof/Config.lean ====
section
/-! DEFINITION. What an implementation fixes (the parameters of 00_scope.md R4, collected in `Part`) and the FREE
VALUES of the model: opaque constants without a body, so that no proof can use one value rather than another. -/

namespace Sys2Proof

/-- `PC_BITS` (R4, R24): 16 or 22. -/
inductive PcWidth where
  | bits16
  | bits22
deriving DecidableEq, Repr

/-- `SP_BITS` (R4, R29): 8 or 16. -/
inductive SpWidth where
  | bits8
  | bits16
deriving DecidableEq, Repr

/-- A byte of the state that a read or write function of `IoBehaviour` can look at or change (R72): any byte of the data
space as it stands, without the effects of an access (so every register and SFR, SREG, SP, EIND, RAMPZ, MCUCR and SRAM),
and the hidden state of R38. Log entry 11 says what is left out. -/
inductive IoCell where
  /-- the byte at a data-space address. -/
  | data (a : Word)
  /-- the request of the source at a place of `IrqTable`: raised is $01, and any byte but $00 raises it. -/
  | request (n : Nat)
  /-- `sleeping`, as a byte like a request. -/
  | sleeping
  /-- `irq_delay`, as a byte like a request: any byte but $00 sets it anew. -/
  | irqDelay
  /-- `wdt_count`, seen modulo 256; there is none on a part without a watchdog. -/
  | watchdog
deriving DecidableEq, Repr

/-- A byte computed from the state, from the byte written, and from oracle bytes: how a function of `IoBehaviour` (R72)
is given as plain data. DESIGN CHOICE (log entry 11): with `choose` every function of finitely many bytes can be
given. -/
inductive IoExpr where
  | const (v : Byte)
  /-- the byte the program writes; $00 in a read. -/
  | written
  /-- the k-th oracle byte of this access, a free value. -/
  | oracle (k : Nat)
  | cell (c : IoCell)
  | complement (e : IoExpr)
  | conj (e f : IoExpr)
  | disj (e f : IoExpr)
  | exclusive (e f : IoExpr)
  | plus (e f : IoExpr)
  | minus (e f : IoExpr)
  | shiftLeft (e : IoExpr) (n : Nat)
  | shiftRight (e : IoExpr) (n : Nat)
  /-- t where c is not $00, else f. -/
  | choose (c t f : IoExpr)
deriving DecidableEq, Repr

/-- One change of the state by a read or a write: the cell gets the value of the expression. -/
structure IoEffect where
  cell : IoCell
  value : IoExpr
deriving DecidableEq, Repr

/-- The read function and the write function of one SFR (R72): the byte a read gives, what a read changes, what a write
changes. All values are those of the state before the access. -/
structure SfrBehaviour where
  readValue : IoExpr
  onRead : List IoEffect
  onWrite : List IoEffect
deriving DecidableEq, Repr

/-- What a read and a write of one SFR do: `IoBehaviour` (20_memory.md R72), three common cases by name and any other by
its read and write function. -/
inductive SfrKind where
  /-- Plain storage: a read gives the last byte written (the default `IoBehaviour`, R4). -/
  | storage
  /-- A pin register: a read gives the levels on the pins, a free byte (R63, R415); a write has no readable trace. -/
  | pins
  /-- A status register: its device may set any flag before a read, and writing a 1 to a flag clears it (R71). -/
  | flags
  /-- Any other behaviour, by its read and write function (R72): a read that clears, a write that changes another SFR,
  a counter, a pair of registers at one address. -/
  | described (b : SfrBehaviour)
deriving DecidableEq, Repr

/-- One bit of an SFR, the SFR named by its data-space address. -/
structure SfrBit where
  addr : Nat
  bit  : BitVec 3
deriving DecidableEq, Repr

/-- One interrupt source of `IrqTable` (60_exceptions.md R402). -/
structure IrqSource where
  /-- (a) the word address control goes to. -/
  vector : PcWord
  /-- (b) its priority: the smaller rank is the better one; by default the vector address, the lowest first (R406). -/
  rank : Nat := vector.toNat
  /-- (c) the predicate over the SFR state that says whether it is enabled: a byte that is not $00; `none`: always. -/
  enable : Option IoExpr
  /-- (e) whether entry removes the request, or leaves it for software. -/
  ackClears : Bool
  /-- the flag of a `flags` SFR by which software withdraws the request (R403). -/
  flag : Option SfrBit
  /-- whether its device may withdraw the request by itself (R403). -/
  deviceWithdraws : Bool
deriving DecidableEq, Repr

/-- The part description: every parameter of R4 as plain data. A state carries the part it runs on, no instruction
changes it, and a claim about all parts is a claim about all states. -/
structure Part where
  /-- `PC_BITS`; `RET_BYTES` follows from it (`retBytes`). -/
  pcWidth : PcWidth
  /-- `FLASH_WORDS`: the number of implemented program words. -/
  flashWords : Nat
  /-- `HAS_MUL`: MUL MULS MULSU FMUL FMULS FMULSU exist. -/
  hasMul : Bool
  /-- `HAS_MOVW`. -/
  hasMovw : Bool
  /-- `HAS_JMP_CALL`: JMP and CALL exist. -/
  hasJmpCall : Bool
  /-- `HAS_IJMP_ICALL`: IJMP and ICALL exist. -/
  hasIjmpIcall : Bool
  /-- `HAS_EXT`: EICALL EIJMP ELPM exist, with the SFRs EIND and RAMPZ. -/
  hasExt : Bool
  /-- `HAS_LPM_RD`: `lpm Rd,Z` and `lpm Rd,Z+` exist. -/
  hasLpmRd : Bool
  /-- `HAS_STACK_OPS`: PUSH and POP exist. -/
  hasStackOps : Bool
  /-- `HAS_SPM`: SPM exists. -/
  hasSpm : Bool
  /-- `HAS_OCD`: the part has an on-chip debug system, so that BREAK stops it. -/
  hasOcd : Bool
  /-- `SP_BITS`. -/
  spWidth : SpWidth
  /-- `SRAM_START` of `DataMap` (20_memory.md R62). -/
  sramStart : Nat
  /-- `RAMEND` of `DataMap`: the last SRAM address. -/
  ramEnd : Nat
  /-- `IoBehaviour` of every SFR not named in `sfrKinds`; `none`: such an SFR is undescribed (R72). -/
  sfrDefault : Option SfrKind
  /-- `IoBehaviour` of single SFRs, by data-space address (SFR number A is at $20 + A). -/
  sfrKinds : List (Nat × SfrKind)
  /-- the SFR contents after reset (10_state.md R44), in canonical form over $00. -/
  sfrReset : List Host.Cell
  /-- the data-space address at which MCUCR is reached, if any (R32, R34): what an access does there is what `sfrKinds`
  and `sfrDefault` say of that address (R44, R72), and the byte `sfrReset` lists there is its reset value (R44). -/
  mcucrAddr : Option Nat
  /-- `SleepEnabled` as a truth table: bit v says whether SLEEP takes effect when MCUCR holds v (R351); false at the
  reset value (R44, `partWf`). -/
  sleepEnabled : BitVec 256
  /-- `IrqTable` (R402); a source is known by its place in the list. -/
  irqs : List IrqSource
  /-- `RESET_SP` (10_state.md R41). -/
  resetSp : Word
  /-- `Watchdog`: `none` absent, `some t` present with `WDT_TIMEOUT` = t cycles (R417). -/
  watchdog : Option Nat
deriving DecidableEq, Repr

/-- `SleepEnabled` that holds exactly when MCUCR is not $00: "a sleep state has been entered into MCUCR" (R351).
DESIGN CHOICE (log entry 10). -/
def sleepWhenEntered : BitVec 256 := BitVec.allOnes 256 <<< 1

/-- The part of `State.reset`: the default column of R4 with every optional group present, which is the machine of
the conventions of 95_test_vectors.md. -/
def Part.reference : Part where
  pcWidth := .bits16
  flashWords := 4096
  hasMul := true
  hasMovw := true
  hasJmpCall := true
  hasIjmpIcall := true
  hasExt := true
  hasLpmRd := true
  hasStackOps := true
  hasSpm := true
  hasOcd := false
  spWidth := .bits16
  sramStart := 0x0060
  ramEnd := 0x045F
  sfrDefault := some .storage
  sfrKinds := []
  sfrReset := []
  mcucrAddr := some 0x0055
  sleepEnabled := sleepWhenEntered
  irqs := []
  resetSp := 0x045F#16
  watchdog := none

/-- FREE VALUE: the byte a pin register gives at the n-th draw (R63, U9). -/
opaque Config.pinByte : Nat → Byte

/-- FREE VALUE: the flags a status register's device has newly raised at the n-th draw (R72, U9, U10). -/
opaque Config.flagsRaised : Nat → Byte

/-- FREE VALUE: the k-th oracle byte of the access to a described SFR at the n-th draw (R63, R72). -/
opaque Config.deviceByte : Nat → Nat → Byte

/-- FREE VALUE: what a described SFR sees at a data address that holds no byte (R45). -/
opaque Config.unwrittenByte : Nat → Byte

/-- FREE VALUE: whether source k raises its request at the boundary of the n-th draw (R403). -/
opaque Config.irqRaised : Nat → Nat → Bool

/-- FREE VALUE: whether source k's device withdraws its request at the boundary of the n-th draw (R403). -/
opaque Config.irqWithdrawn : Nat → Nat → Bool

/-- FREE VALUE: whether a write of SREG that takes I from 0 to 1 sets `irq_delay` (R411, U17). -/
opaque Config.sregWriteDelays : Nat → Bool

/-- FREE VALUE: whether an expired watchdog resets the machine at this boundary (R417, U8). -/
opaque Config.watchdogFires : Nat → Bool

end Sys2Proof
end

