-- ==== Sys2Proof/Machine/State.lean ====
section
/-! DEFINITION. The machine's state as plain data, its faults and refusals, and the state after reset
(10_state.md; 60_exceptions.md R400; 70_reset_and_hazards.md R450). -/

namespace Sys2Proof.Machine

/-- Why a step stops with a fault: the model faults of 60_exceptions.md R400 ("this spec gives the situation no
meaning") and the stop after BREAK. All are safe: the chip may go on where the model stops. -/
inductive Fault where
  /-- A fetch (of an instruction, of its second word, or by a skip) at a word address outside the program memory or
  the program image. Raised by the fetch and by the skips. Safe. -/
  | fetchOutOfRange (addr : PcWord)
  /-- The word at pc matches no row of the opcode table, or an instruction of a group the part lacks (R113, R114).
  Raised by the fetch and by every instruction of an optional group. Safe. -/
  | unassignedOpcode (pc : PcWord) (w : Word)
  /-- A post-increment or pre-decrement access whose data register is in the updated pointer (R293 (e)). Raised by
  those forms of LD, ST, LPM, ELPM. Safe. -/
  | undefinedOperandCombination (pc : PcWord) (w : Word)
  /-- A data-space access at an address nothing implements (R62). Raised by every data-space access. Safe. -/
  | dataAddressUnimplemented (addr : Word)
  /-- An access to an SFR, named by its data-space address, that `IoBehaviour` does not describe (R72). Safe. -/
  | sfrUndescribed (addr : Nat)
  /-- SPM, whose effect the source does not give (R320). Raised by SPM. Safe. -/
  | spmNotModelled (pc : PcWord)
  /-- A read of an SRAM byte that nothing has written since reset (R45). Raised by data-space reads. Safe. -/
  | unwrittenRead (addr : Word)
  /-- LPM or ELPM at a program byte the image does not define (R64, R46). Raised by LPM and ELPM. Safe. -/
  | programImageUndefined (addr : Nat)
  /-- A step asked of a core that BREAK has stopped: it takes none (R353). Raised by the step. Safe. -/
  | stopped
deriving DecidableEq, Repr

/-- Why a step is refused. -/
inductive Refusal where
  /-- No meaning has been written for the instruction yet. Raised by `exec`'s arms alone. Safe. -/
  | notModelled (mnemonic : String)
deriving DecidableEq, Repr

/-- One access an observer outside the chip sees, at an SFR's data-space address (R456). -/
inductive IoEvent where
  | read (addr : Nat) (v : Byte)
  | write (addr : Nat) (v : Byte)
deriving DecidableEq, Repr

/-- `irq_delay` (R38 (e), R411). It is true as `set` and as `ending`; the two tell the instruction that sets it, and the
boundary after that one, from the one instruction it lasts for, at whose completion it ends. -/
inductive IrqDelay where
  /-- false. -/
  | off
  /-- true: the instruction just run has set it, or the running one has. -/
  | set
  /-- true: the instruction it lasts for is running. -/
  | ending
deriving DecidableEq, Repr

/-- Byte memory: address and byte pairs in canonical form (`Memory.wf`). -/
abbrev Memory := List Host.Cell

/-- The whole state of the machine (10_state.md; R38 for the hidden state). -/
structure State where
  /-- the part the machine is (R4); never changed by a step. -/
  part : Part
  /-- R0..R31 (R20). -/
  regs : Vector Byte 32
  /-- the program counter, a word address (R24). -/
  pc : PcWord
  /-- SREG: I T H S V N Z C at bits 7..0 (R26). -/
  sreg : Byte
  /-- the stack pointer, a data-space address (R29). -/
  sp : Word
  /-- RAMPZ (R30). -/
  rampz : Byte
  /-- EIND (R31). -/
  eind : Byte
  /-- MCUCR (R32). -/
  mcucr : Byte
  /-- the SFRs of `IoBehaviour`, by data-space address; an unlisted one holds $00 (R36, R72). -/
  sfr : Memory
  /-- SRAM, by data-space address; an unlisted byte has not been written (R35, R45). -/
  sram : Memory
  /-- the program memory, by byte address; an unlisted byte is outside the image (R37, R46). -/
  prog : Memory
  /-- `irq_pending`: the sources, by their place in `IrqTable`, whose request is raised; strictly rising (R38 (a)). -/
  irqPending : List Nat
  /-- `irq_delay` (R38 (e)). -/
  irqDelay : IrqDelay
  /-- `sleeping` (R38 (b)). -/
  sleeping : Bool
  /-- `stopped` (R38 (c)). -/
  stopped : Bool
  /-- `wdt_count` (R38 (d)). -/
  wdtCount : Nat
  /-- the SFR reads and writes seen outside the chip, oldest first (R456). -/
  ioLog : List IoEvent
  /-- the MODEL's own counter of the free values drawn so far. -/
  draws : Nat
deriving DecidableEq, Repr

/-- MCUCR after reset: the byte the part gives for its address (R44), $00 where it gives none (log entry 4). -/
def mcucrReset (p : Part) : Byte :=
  match p.mcucrAddr with
  | some a => (p.sfrReset.lookup a).getD 0#8
  | none => 0#8

/-- The reset state of a part with a program image (R39 to R47, R450). Registers, and SFR contents the part does not
give: log entries 2, 3, 4. -/
def State.resetOf (p : Part) (image : Memory) : State where
  part := p
  regs := Vector.replicate 32 0#8
  pc := 0#22
  sreg := 0#8
  sp := p.resetSp
  rampz := 0#8
  eind := 0#8
  mcucr := mcucrReset p
  sfr := p.sfrReset
  sram := []
  prog := image
  irqPending := []
  irqDelay := .off
  sleeping := false
  stopped := false
  wdtCount := 0
  ioLog := []
  draws := 0

/-- The machine right after reset: the reference part, with no program image placed yet (R46, R450). -/
def State.reset : State := State.resetOf Part.reference []

end Sys2Proof.Machine
end

