-- ==== Sys2Proof/Machine/Flags.lean ====
section
/-! DEFINITION. The status register bit by bit and every flag computation the spec gives: 40_arithmetic.md R140 to R142
and R157, 41_logic_shift.md R180, R181; the flag rows of 10_state.md R28. -/

namespace Sys2Proof.Machine

-- The bits of SREG (R26).

/-- SREG.I: the global interrupt enable. -/
def flagI (sr : Byte) : Bool := sr.getLsbD 7
/-- SREG.T: the transfer bit. -/
def flagT (sr : Byte) : Bool := sr.getLsbD 6
/-- SREG.H: half carry. -/
def flagH (sr : Byte) : Bool := sr.getLsbD 5
/-- SREG.S: sign. -/
def flagS (sr : Byte) : Bool := sr.getLsbD 4
/-- SREG.V: two's complement overflow. -/
def flagV (sr : Byte) : Bool := sr.getLsbD 3
/-- SREG.N: negative. -/
def flagN (sr : Byte) : Bool := sr.getLsbD 2
/-- SREG.Z: zero. -/
def flagZ (sr : Byte) : Bool := sr.getLsbD 1
/-- SREG.C: carry. -/
def flagC (sr : Byte) : Bool := sr.getLsbD 0

/-- SREG from its eight bits, I at bit 7 to C at bit 0 (R26). -/
def sregOf (i t h s v n z c : Bool) : Byte :=
  BitVec.ofBool i ++ BitVec.ofBool t ++ BitVec.ofBool h ++ BitVec.ofBool s ++ BitVec.ofBool v ++ BitVec.ofBool n ++
    BitVec.ofBool z ++ BitVec.ofBool c

/-- The carry-in as a byte. -/
def carryByte (c : Bool) : Byte := (BitVec.ofBool c).setWidth 8

/-- The result of an 8-bit addition (R140). -/
def add8 (a b : Byte) (cin : Bool) : Byte := a + b + carryByte cin

/-- SREG after an 8-bit addition (R140): H S V N Z C written, I and T kept. -/
def add8Flags (sr a b : Byte) (cin : Bool) : Byte :=
  let r := add8 a b cin
  let h := (a.getLsbD 3 && b.getLsbD 3) || (b.getLsbD 3 && !r.getLsbD 3) || (!r.getLsbD 3 && a.getLsbD 3)
  let c := (a.getLsbD 7 && b.getLsbD 7) || (b.getLsbD 7 && !r.getLsbD 7) || (!r.getLsbD 7 && a.getLsbD 7)
  let v := (a.getLsbD 7 && b.getLsbD 7 && !r.getLsbD 7) || (!a.getLsbD 7 && !b.getLsbD 7 && r.getLsbD 7)
  let n := r.getLsbD 7
  sregOf (flagI sr) (flagT sr) h (n ^^ v) v n (decide (r = 0#8)) c

/-- The result of an 8-bit subtraction (R141). -/
def sub8 (a b : Byte) (cin : Bool) : Byte := a - b - carryByte cin

/-- SREG after an 8-bit subtraction or comparison (R141): H S V N Z C written, I and T kept; with `keepZ` the new Z is
1 only if the old one was. -/
def sub8Flags (sr a b : Byte) (cin keepZ : Bool) : Byte :=
  let r := sub8 a b cin
  let h := (!a.getLsbD 3 && b.getLsbD 3) || (b.getLsbD 3 && r.getLsbD 3) || (r.getLsbD 3 && !a.getLsbD 3)
  let c := (!a.getLsbD 7 && b.getLsbD 7) || (b.getLsbD 7 && r.getLsbD 7) || (r.getLsbD 7 && !a.getLsbD 7)
  let v := (a.getLsbD 7 && !b.getLsbD 7 && !r.getLsbD 7) || (!a.getLsbD 7 && b.getLsbD 7 && r.getLsbD 7)
  let n := r.getLsbD 7
  sregOf (flagI sr) (flagT sr) h (n ^^ v) v n (decide (r = 0#8) && (!keepZ || flagZ sr)) c

/-- SREG after ADIW (R142): S V N Z C written from the 16-bit sum r of a, I T H kept. -/
def addwFlags (sr : Byte) (a r : Word) : Byte :=
  let v := !a.getLsbD 15 && r.getLsbD 15
  let c := !r.getLsbD 15 && a.getLsbD 15
  let n := r.getLsbD 15
  sregOf (flagI sr) (flagT sr) (flagH sr) (n ^^ v) v n (decide (r = 0#16)) c

/-- SREG after SBIW (R142): S V N Z C written from the 16-bit difference r of a, I T H kept. -/
def subwFlags (sr : Byte) (a r : Word) : Byte :=
  let v := a.getLsbD 15 && !r.getLsbD 15
  let c := r.getLsbD 15 && !a.getLsbD 15
  let n := r.getLsbD 15
  sregOf (flagI sr) (flagT sr) (flagH sr) (n ^^ v) v n (decide (r = 0#16)) c

/-- SREG after INC and DEC with result r (R151, R152): S V N Z written, I T H C kept; v is the overflow. -/
def stepFlags (sr r : Byte) (v : Bool) : Byte :=
  let n := r.getLsbD 7
  sregOf (flagI sr) (flagT sr) (flagH sr) (n ^^ v) v n (decide (r = 0#8)) (flagC sr)

/-- `logic_flags(R)` (R181): V cleared, N Z S from the result, H C T I kept. -/
def logicFlags (sr r : Byte) : Byte :=
  sregOf (flagI sr) (flagT sr) (flagH sr) (r.getLsbD 7) false (r.getLsbD 7) (decide (r = 0#8)) (flagC sr)

/-- The flags of COM (R187): `logic_flags` with C set. -/
def comFlags (sr r : Byte) : Byte :=
  sregOf (flagI sr) (flagT sr) (flagH sr) (r.getLsbD 7) false (r.getLsbD 7) (decide (r = 0#8)) true

/-- `shr_flags(R, Cout)` (R180): C N Z from the shift, V = N ^ C, S = N ^ V, H T I kept. -/
def shrFlags (sr r : Byte) (cout : Bool) : Byte :=
  let n := r.getLsbD 7
  let v := n ^^ cout
  sregOf (flagI sr) (flagT sr) (flagH sr) (n ^^ v) v n (decide (r = 0#8)) cout

/-- SREG after a multiplication (R157): Z over the 16 bits written to R1:R0, C the named bit of the product; the rest
kept. -/
def mulFlags (sr : Byte) (r : Word) (c : Bool) : Byte :=
  sregOf (flagI sr) (flagT sr) (flagH sr) (flagS sr) (flagV sr) (flagN sr) (decide (r = 0#16)) c

/-- SREG with T replaced (R215). -/
def withT (sr : Byte) (t : Bool) : Byte :=
  sregOf (flagI sr) t (flagH sr) (flagS sr) (flagV sr) (flagN sr) (flagZ sr) (flagC sr)

/-- The 16-bit product of two bytes read as unsigned (R158). -/
def mulUU (a b : Byte) : Word := a.setWidth 16 * b.setWidth 16
/-- The 16-bit product of two bytes read as signed (R159). -/
def mulSS (a b : Byte) : Word := a.signExtend 16 * b.signExtend 16
/-- The 16-bit product of a signed and an unsigned byte (R160). -/
def mulSU (a b : Byte) : Word := a.signExtend 16 * b.setWidth 16

end Sys2Proof.Machine
end

