-- ==== Sys2Proof/Syntax.lean ====
section
/-! DEFINITION. The instructions: one constructor per row of spec/opcode_table.json, in the table's order: the 91 machine
instructions of 30_encoding.md R111, then the 46 alias rows of R117 (another name of a core instruction's words).
A decoder gives core instructions only (R111); `Instr.expand` is R117's table from an alias to what it stands for. -/

namespace Sys2Proof

/-- An instruction with its operands as the program writes them: register numbers are R0..R31 (never the narrowed
fields of the word), immediates have the widths of R105 to R107, offsets are two's complement fields (R106). -/
inductive Instr where
  /-- NOP (R350). -/
  | nop
  /-- MOVW (R291). -/
  | movw (d r : Reg)
  /-- MULS (R159). -/
  | muls (d r : Reg)
  /-- MULSU (R160). -/
  | mulsu (d r : Reg)
  /-- FMUL (R161). -/
  | fmul (d r : Reg)
  /-- FMULS (R162). -/
  | fmuls (d r : Reg)
  /-- FMULSU (R163). -/
  | fmulsu (d r : Reg)
  /-- CPC (R155). -/
  | cpc (d r : Reg)
  /-- SBC (R148). -/
  | sbc (d r : Reg)
  /-- ADD (R143). -/
  | add (d r : Reg)
  /-- CPSE (R253). -/
  | cpse (d r : Reg)
  /-- CP (R154). -/
  | cp (d r : Reg)
  /-- SUB (R146). -/
  | sub (d r : Reg)
  /-- ADC (R144). -/
  | adc (d r : Reg)
  /-- AND (R182). -/
  | and_ (d r : Reg)
  /-- EOR (R186). -/
  | eor (d r : Reg)
  /-- OR (R184). -/
  | or_ (d r : Reg)
  /-- MOV (R290). -/
  | mov (d r : Reg)
  /-- CPI (R156). -/
  | cpi (d : Reg) (k : Byte)
  /-- SBCI (R149). -/
  | sbci (d : Reg) (k : Byte)
  /-- SUBI (R147). -/
  | subi (d : Reg) (k : Byte)
  /-- ORI (R185). -/
  | ori (d : Reg) (k : Byte)
  /-- ANDI (R183). -/
  | andi (d : Reg) (k : Byte)
  /-- LDD Z+q (R302). -/
  | lddZ (d : Reg) (q : BitVec 6)
  /-- LDD Y+q (R301). -/
  | lddY (d : Reg) (q : BitVec 6)
  /-- STD Z+q (R312). -/
  | stdZ (q : BitVec 6) (r : Reg)
  /-- STD Y+q (R311). -/
  | stdY (q : BitVec 6) (r : Reg)
  /-- LDS (R303). -/
  | lds (d : Reg) (k : Word)
  /-- LD Z+ (R299). -/
  | ldZInc (d : Reg)
  /-- LD -Z (R300). -/
  | ldZDec (d : Reg)
  /-- LPM Rd Z (R315). -/
  | lpmRd (d : Reg)
  /-- LPM Rd Z+ (R316). -/
  | lpmRdInc (d : Reg)
  /-- ELPM Rd Z (R318). -/
  | elpmRd (d : Reg)
  /-- ELPM Rd Z+ (R319). -/
  | elpmRdInc (d : Reg)
  /-- LD Y+ (R297). -/
  | ldYInc (d : Reg)
  /-- LD -Y (R298). -/
  | ldYDec (d : Reg)
  /-- LD X (R294). -/
  | ldX (d : Reg)
  /-- LD X+ (R295). -/
  | ldXInc (d : Reg)
  /-- LD -X (R296). -/
  | ldXDec (d : Reg)
  /-- POP (R322). -/
  | pop (d : Reg)
  /-- STS (R313). -/
  | sts (k : Word) (r : Reg)
  /-- ST Z+ (R309). -/
  | stZInc (r : Reg)
  /-- ST -Z (R310). -/
  | stZDec (r : Reg)
  /-- ST Y+ (R307). -/
  | stYInc (r : Reg)
  /-- ST -Y (R308). -/
  | stYDec (r : Reg)
  /-- ST X (R304). -/
  | stX (r : Reg)
  /-- ST X+ (R305). -/
  | stXInc (r : Reg)
  /-- ST -X (R306). -/
  | stXDec (r : Reg)
  /-- PUSH (R321). -/
  | push (r : Reg)
  /-- COM (R187). -/
  | com (d : Reg)
  /-- NEG (R153). -/
  | neg (d : Reg)
  /-- SWAP (R191). -/
  | swap (d : Reg)
  /-- INC (R151). -/
  | inc (d : Reg)
  /-- ASR (R188). -/
  | asr (d : Reg)
  /-- LSR (R189). -/
  | lsr (d : Reg)
  /-- ROR (R190). -/
  | ror (d : Reg)
  /-- BSET (R210). -/
  | bset (b : BitVec 3)
  /-- IJMP (R245). -/
  | ijmp
  /-- DEC (R152). -/
  | dec (d : Reg)
  /-- JMP (R244). -/
  | jmp (k : BitVec 22)
  /-- CALL (R248). -/
  | call (k : BitVec 22)
  /-- EIJMP (R246). -/
  | eijmp
  /-- BCLR (R211). -/
  | bclr (b : BitVec 3)
  /-- RET (R251). -/
  | ret
  /-- ICALL (R249). -/
  | icall
  /-- RETI (R252). -/
  | reti
  /-- EICALL (R250). -/
  | eicall
  /-- SLEEP (R351). -/
  | sleep
  /-- BREAK (R353). -/
  | break_
  /-- WDR (R352). -/
  | wdr
  /-- LPM (R314). -/
  | lpm
  /-- ELPM (R317). -/
  | elpm
  /-- SPM (R320). -/
  | spm
  /-- ADIW (R145). -/
  | adiw (d : Reg) (k : BitVec 6)
  /-- SBIW (R150). -/
  | sbiw (d : Reg) (k : BitVec 6)
  /-- CBI (R217). -/
  | cbi (a : BitVec 5) (b : BitVec 3)
  /-- SBIC (R256). -/
  | sbic (a : BitVec 5) (b : BitVec 3)
  /-- SBI (R216). -/
  | sbi (a : BitVec 5) (b : BitVec 3)
  /-- SBIS (R257). -/
  | sbis (a : BitVec 5) (b : BitVec 3)
  /-- MUL (R158). -/
  | mul (d r : Reg)
  /-- IN (R323). -/
  | in_ (d : Reg) (a : BitVec 6)
  /-- OUT (R324). -/
  | out (a : BitVec 6) (r : Reg)
  /-- RJMP (R243). -/
  | rjmp (k : BitVec 12)
  /-- RCALL (R247). -/
  | rcall (k : BitVec 12)
  /-- LDI (R292). -/
  | ldi (d : Reg) (k : Byte)
  /-- BRBS (R240). -/
  | brbs (b : BitVec 3) (k : BitVec 7)
  /-- BRBC (R241). -/
  | brbc (b : BitVec 3) (k : BitVec 7)
  /-- BLD (R214). -/
  | bld (d : Reg) (b : BitVec 3)
  /-- BST (R215). -/
  | bst (d : Reg) (b : BitVec 3)
  /-- SBRC (R254). -/
  | sbrc (r : Reg) (b : BitVec 3)
  /-- SBRS (R255). -/
  | sbrs (r : Reg) (b : BitVec 3)
  -- alias rows (R117)
  /-- BRCC (R242), an alias. -/
  | brcc (k : BitVec 7)
  /-- BRCS (R242), an alias. -/
  | brcs (k : BitVec 7)
  /-- BRSH (R242), an alias. -/
  | brsh (k : BitVec 7)
  /-- BRLO (R242), an alias. -/
  | brlo (k : BitVec 7)
  /-- BRNE (R242), an alias. -/
  | brne (k : BitVec 7)
  /-- BREQ (R242), an alias. -/
  | breq (k : BitVec 7)
  /-- BRPL (R242), an alias. -/
  | brpl (k : BitVec 7)
  /-- BRMI (R242), an alias. -/
  | brmi (k : BitVec 7)
  /-- BRVC (R242), an alias. -/
  | brvc (k : BitVec 7)
  /-- BRVS (R242), an alias. -/
  | brvs (k : BitVec 7)
  /-- BRGE (R242), an alias. -/
  | brge (k : BitVec 7)
  /-- BRLT (R242), an alias. -/
  | brlt (k : BitVec 7)
  /-- BRHC (R242), an alias. -/
  | brhc (k : BitVec 7)
  /-- BRHS (R242), an alias. -/
  | brhs (k : BitVec 7)
  /-- BRTC (R242), an alias. -/
  | brtc (k : BitVec 7)
  /-- BRTS (R242), an alias. -/
  | brts (k : BitVec 7)
  /-- BRID (R242), an alias. -/
  | brid (k : BitVec 7)
  /-- BRIE (R242), an alias. -/
  | brie (k : BitVec 7)
  /-- BRIC (R242), an alias. -/
  | bric (k : BitVec 7)
  /-- SEC (R212), an alias. -/
  | sec
  /-- SEZ (R212), an alias. -/
  | sez
  /-- SEN (R212), an alias. -/
  | sen
  /-- SEV (R212), an alias. -/
  | sev
  /-- SES (R212), an alias. -/
  | ses
  /-- SEH (R212), an alias. -/
  | seh
  /-- SET (R212), an alias. -/
  | set_
  /-- SEI (R212), an alias. -/
  | sei
  /-- CLC (R213), an alias. -/
  | clc
  /-- CLZ (R213), an alias. -/
  | clz
  /-- CLN (R213), an alias. -/
  | cln
  /-- CLV (R213), an alias. -/
  | clv
  /-- CLS (R213), an alias. -/
  | cls
  /-- CLH (R213), an alias. -/
  | clh
  /-- CLT (R213), an alias. -/
  | clt
  /-- CLI (R213), an alias. -/
  | cli
  /-- CLR (R195), an alias. -/
  | clr (d : Reg)
  /-- SER (R196), an alias. -/
  | ser (d : Reg)
  /-- TST (R194), an alias. -/
  | tst (d : Reg)
  /-- LSL (R192), an alias. -/
  | lsl (d : Reg)
  /-- ROL (R193), an alias. -/
  | rol (d : Reg)
  /-- CBR (R197), an alias. -/
  | cbr (d : Reg) (k : Byte)
  /-- SBR (R198), an alias. -/
  | sbr (d : Reg) (k : Byte)
  /-- LD Y (R301), an alias. -/
  | ldY (d : Reg)
  /-- LD Z (R302), an alias. -/
  | ldZ (d : Reg)
  /-- ST Y (R311), an alias. -/
  | stY (r : Reg)
  /-- ST Z (R312), an alias. -/
  | stZ (r : Reg)
deriving DecidableEq, Repr

/-- R117: the instruction whose encoding and meaning an alias has; a core instruction is itself. -/
def Instr.expand : Instr → Instr
  | .brcc k => .brbc 0 k
  | .brcs k => .brbs 0 k
  | .brsh k => .brbc 0 k
  | .brlo k => .brbs 0 k
  | .brne k => .brbc 1 k
  | .breq k => .brbs 1 k
  | .brpl k => .brbc 2 k
  | .brmi k => .brbs 2 k
  | .brvc k => .brbc 3 k
  | .brvs k => .brbs 3 k
  | .brge k => .brbc 4 k
  | .brlt k => .brbs 4 k
  | .brhc k => .brbc 5 k
  | .brhs k => .brbs 5 k
  | .brtc k => .brbc 6 k
  | .brts k => .brbs 6 k
  | .brid k => .brbc 7 k
  | .brie k => .brbs 7 k
  | .bric k => .brbs 7 k
  | .sec => .bset 0
  | .sez => .bset 1
  | .sen => .bset 2
  | .sev => .bset 3
  | .ses => .bset 4
  | .seh => .bset 5
  | .set_ => .bset 6
  | .sei => .bset 7
  | .clc => .bclr 0
  | .clz => .bclr 1
  | .cln => .bclr 2
  | .clv => .bclr 3
  | .cls => .bclr 4
  | .clh => .bclr 5
  | .clt => .bclr 6
  | .cli => .bclr 7
  | .clr d => .eor d d
  | .ser d => .ldi d 0xFF
  | .tst d => .and_ d d
  | .lsl d => .add d d
  | .rol d => .adc d d
  | .cbr d k => .andi d (~~~k)
  | .sbr d k => .ori d k
  | .ldY d => .lddY d 0
  | .ldZ d => .lddZ d 0
  | .stY r => .stdY 0 r
  | .stZ r => .stdZ 0 r
  | .nop => .nop
  | .movw d r => .movw d r
  | .muls d r => .muls d r
  | .mulsu d r => .mulsu d r
  | .fmul d r => .fmul d r
  | .fmuls d r => .fmuls d r
  | .fmulsu d r => .fmulsu d r
  | .cpc d r => .cpc d r
  | .sbc d r => .sbc d r
  | .add d r => .add d r
  | .cpse d r => .cpse d r
  | .cp d r => .cp d r
  | .sub d r => .sub d r
  | .adc d r => .adc d r
  | .and_ d r => .and_ d r
  | .eor d r => .eor d r
  | .or_ d r => .or_ d r
  | .mov d r => .mov d r
  | .cpi d k => .cpi d k
  | .sbci d k => .sbci d k
  | .subi d k => .subi d k
  | .ori d k => .ori d k
  | .andi d k => .andi d k
  | .lddZ d q => .lddZ d q
  | .lddY d q => .lddY d q
  | .stdZ q r => .stdZ q r
  | .stdY q r => .stdY q r
  | .lds d k => .lds d k
  | .ldZInc d => .ldZInc d
  | .ldZDec d => .ldZDec d
  | .lpmRd d => .lpmRd d
  | .lpmRdInc d => .lpmRdInc d
  | .elpmRd d => .elpmRd d
  | .elpmRdInc d => .elpmRdInc d
  | .ldYInc d => .ldYInc d
  | .ldYDec d => .ldYDec d
  | .ldX d => .ldX d
  | .ldXInc d => .ldXInc d
  | .ldXDec d => .ldXDec d
  | .pop d => .pop d
  | .sts k r => .sts k r
  | .stZInc r => .stZInc r
  | .stZDec r => .stZDec r
  | .stYInc r => .stYInc r
  | .stYDec r => .stYDec r
  | .stX r => .stX r
  | .stXInc r => .stXInc r
  | .stXDec r => .stXDec r
  | .push r => .push r
  | .com d => .com d
  | .neg d => .neg d
  | .swap d => .swap d
  | .inc d => .inc d
  | .asr d => .asr d
  | .lsr d => .lsr d
  | .ror d => .ror d
  | .bset b => .bset b
  | .ijmp => .ijmp
  | .dec d => .dec d
  | .jmp k => .jmp k
  | .call k => .call k
  | .eijmp => .eijmp
  | .bclr b => .bclr b
  | .ret => .ret
  | .icall => .icall
  | .reti => .reti
  | .eicall => .eicall
  | .sleep => .sleep
  | .break_ => .break_
  | .wdr => .wdr
  | .lpm => .lpm
  | .elpm => .elpm
  | .spm => .spm
  | .adiw d k => .adiw d k
  | .sbiw d k => .sbiw d k
  | .cbi a b => .cbi a b
  | .sbic a b => .sbic a b
  | .sbi a b => .sbi a b
  | .sbis a b => .sbis a b
  | .mul d r => .mul d r
  | .in_ d a => .in_ d a
  | .out a r => .out a r
  | .rjmp k => .rjmp k
  | .rcall k => .rcall k
  | .ldi d k => .ldi d k
  | .brbs b k => .brbs b k
  | .brbc b k => .brbc b k
  | .bld d b => .bld d b
  | .bst d b => .bst d b
  | .sbrc r b => .sbrc r b
  | .sbrs r b => .sbrs r b

/-- Whether a constructor is an alias row of the opcode table (`kind` = `alias`). -/
def Instr.isAlias : Instr → Bool
  | .brcc _ => true
  | .brcs _ => true
  | .brsh _ => true
  | .brlo _ => true
  | .brne _ => true
  | .breq _ => true
  | .brpl _ => true
  | .brmi _ => true
  | .brvc _ => true
  | .brvs _ => true
  | .brge _ => true
  | .brlt _ => true
  | .brhc _ => true
  | .brhs _ => true
  | .brtc _ => true
  | .brts _ => true
  | .brid _ => true
  | .brie _ => true
  | .bric _ => true
  | .sec => true
  | .sez => true
  | .sen => true
  | .sev => true
  | .ses => true
  | .seh => true
  | .set_ => true
  | .sei => true
  | .clc => true
  | .clz => true
  | .cln => true
  | .clv => true
  | .cls => true
  | .clh => true
  | .clt => true
  | .cli => true
  | .clr _ => true
  | .ser _ => true
  | .tst _ => true
  | .lsl _ => true
  | .rol _ => true
  | .cbr _ _ => true
  | .sbr _ _ => true
  | .ldY _ => true
  | .ldZ _ => true
  | .stY _ => true
  | .stZ _ => true
  | .nop => false
  | .movw _ _ => false
  | .muls _ _ => false
  | .mulsu _ _ => false
  | .fmul _ _ => false
  | .fmuls _ _ => false
  | .fmulsu _ _ => false
  | .cpc _ _ => false
  | .sbc _ _ => false
  | .add _ _ => false
  | .cpse _ _ => false
  | .cp _ _ => false
  | .sub _ _ => false
  | .adc _ _ => false
  | .and_ _ _ => false
  | .eor _ _ => false
  | .or_ _ _ => false
  | .mov _ _ => false
  | .cpi _ _ => false
  | .sbci _ _ => false
  | .subi _ _ => false
  | .ori _ _ => false
  | .andi _ _ => false
  | .lddZ _ _ => false
  | .lddY _ _ => false
  | .stdZ _ _ => false
  | .stdY _ _ => false
  | .lds _ _ => false
  | .ldZInc _ => false
  | .ldZDec _ => false
  | .lpmRd _ => false
  | .lpmRdInc _ => false
  | .elpmRd _ => false
  | .elpmRdInc _ => false
  | .ldYInc _ => false
  | .ldYDec _ => false
  | .ldX _ => false
  | .ldXInc _ => false
  | .ldXDec _ => false
  | .pop _ => false
  | .sts _ _ => false
  | .stZInc _ => false
  | .stZDec _ => false
  | .stYInc _ => false
  | .stYDec _ => false
  | .stX _ => false
  | .stXInc _ => false
  | .stXDec _ => false
  | .push _ => false
  | .com _ => false
  | .neg _ => false
  | .swap _ => false
  | .inc _ => false
  | .asr _ => false
  | .lsr _ => false
  | .ror _ => false
  | .bset _ => false
  | .ijmp => false
  | .dec _ => false
  | .jmp _ => false
  | .call _ => false
  | .eijmp => false
  | .bclr _ => false
  | .ret => false
  | .icall => false
  | .reti => false
  | .eicall => false
  | .sleep => false
  | .break_ => false
  | .wdr => false
  | .lpm => false
  | .elpm => false
  | .spm => false
  | .adiw _ _ => false
  | .sbiw _ _ => false
  | .cbi _ _ => false
  | .sbic _ _ => false
  | .sbi _ _ => false
  | .sbis _ _ => false
  | .mul _ _ => false
  | .in_ _ _ => false
  | .out _ _ => false
  | .rjmp _ => false
  | .rcall _ => false
  | .ldi _ _ => false
  | .brbs _ _ => false
  | .brbc _ _ => false
  | .bld _ _ => false
  | .bst _ _ => false
  | .sbrc _ _ => false
  | .sbrs _ _ => false

end Sys2Proof
end

