-- ==== Sys2Proof/WellFormed.lean ====
section
/-! DEFINITION. Which operands an instruction accepts: the register subsets of 10_state.md R22 and 30_encoding.md R104
(the widths of all other operands are in their types, R105 to R107). -/

namespace Sys2Proof

/-- R16..R31 (R22). -/
def Reg.isUpper (d : Reg) : Bool := decide (16 ≤ d.toNat)

/-- R16..R23 (R22). -/
def Reg.isMulsu (d : Reg) : Bool := decide (16 ≤ d.toNat ∧ d.toNat ≤ 23)

/-- The even registers R0, R2, .., R30 (R22). -/
def Reg.isEven (d : Reg) : Bool := !d.getLsbD 0

/-- R24, R26, R28, R30: the low register of a pair of ADIW and SBIW (R22). -/
def Reg.isWordPair (d : Reg) : Bool := decide (24 ≤ d.toNat) && d.isEven

/-- The instruction's operands are ones its encoding admits (R22, R104). -/
def Instr.wellFormed : Instr → Bool
  | .nop => true
  | .movw d r => d.isEven && r.isEven
  | .muls d r => d.isUpper && r.isUpper
  | .mulsu d r => d.isMulsu && r.isMulsu
  | .fmul d r => d.isMulsu && r.isMulsu
  | .fmuls d r => d.isMulsu && r.isMulsu
  | .fmulsu d r => d.isMulsu && r.isMulsu
  | .cpc _ _ => true
  | .sbc _ _ => true
  | .add _ _ => true
  | .cpse _ _ => true
  | .cp _ _ => true
  | .sub _ _ => true
  | .adc _ _ => true
  | .and_ _ _ => true
  | .eor _ _ => true
  | .or_ _ _ => true
  | .mov _ _ => true
  | .cpi d _ => d.isUpper
  | .sbci d _ => d.isUpper
  | .subi d _ => d.isUpper
  | .ori d _ => d.isUpper
  | .andi d _ => d.isUpper
  | .lddZ _ _ => true
  | .lddY _ _ => true
  | .stdZ _ _ => true
  | .stdY _ _ => true
  | .lds _ _ => true
  | .ldZInc _ => true
  | .ldZDec _ => true
  | .lpmRd _ => true
  | .lpmRdInc _ => true
  | .elpmRd _ => true
  | .elpmRdInc _ => true
  | .ldYInc _ => true
  | .ldYDec _ => true
  | .ldX _ => true
  | .ldXInc _ => true
  | .ldXDec _ => true
  | .pop _ => true
  | .sts _ _ => true
  | .stZInc _ => true
  | .stZDec _ => true
  | .stYInc _ => true
  | .stYDec _ => true
  | .stX _ => true
  | .stXInc _ => true
  | .stXDec _ => true
  | .push _ => true
  | .com _ => true
  | .neg _ => true
  | .swap _ => true
  | .inc _ => true
  | .asr _ => true
  | .lsr _ => true
  | .ror _ => true
  | .bset _ => true
  | .ijmp => true
  | .dec _ => true
  | .jmp _ => true
  | .call _ => true
  | .eijmp => true
  | .bclr _ => true
  | .ret => true
  | .icall => true
  | .reti => true
  | .eicall => true
  | .sleep => true
  | .break_ => true
  | .wdr => true
  | .lpm => true
  | .elpm => true
  | .spm => true
  | .adiw d _ => d.isWordPair
  | .sbiw d _ => d.isWordPair
  | .cbi _ _ => true
  | .sbic _ _ => true
  | .sbi _ _ => true
  | .sbis _ _ => true
  | .mul _ _ => true
  | .in_ _ _ => true
  | .out _ _ => true
  | .rjmp _ => true
  | .rcall _ => true
  | .ldi d _ => d.isUpper
  | .brbs _ _ => true
  | .brbc _ _ => true
  | .bld _ _ => true
  | .bst _ _ => true
  | .sbrc _ _ => true
  | .sbrs _ _ => true
  | .brcc _ => true
  | .brcs _ => true
  | .brsh _ => true
  | .brlo _ => true
  | .brne _ => true
  | .breq _ => true
  | .brpl _ => true
  | .brmi _ => true
  | .brvc _ => true
  | .brvs _ => true
  | .brge _ => true
  | .brlt _ => true
  | .brhc _ => true
  | .brhs _ => true
  | .brtc _ => true
  | .brts _ => true
  | .brid _ => true
  | .brie _ => true
  | .bric _ => true
  | .sec => true
  | .sez => true
  | .sen => true
  | .sev => true
  | .ses => true
  | .seh => true
  | .set_ => true
  | .sei => true
  | .clc => true
  | .clz => true
  | .cln => true
  | .clv => true
  | .cls => true
  | .clh => true
  | .clt => true
  | .cli => true
  | .clr _ => true
  | .ser d => d.isUpper
  | .tst _ => true
  | .lsl _ => true
  | .rol _ => true
  | .cbr d _ => d.isUpper
  | .sbr d _ => d.isUpper
  | .ldY _ => true
  | .ldZ _ => true
  | .stY _ => true
  | .stZ _ => true

end Sys2Proof
end

