-- ==== Sys2Proof/Decode.lean ====
section
/-! DEFINITION. The decoder, from the table of 30_encoding.md R111 row by row, and the encoder, from the formats of
R103. Both are total. The decoder gives core instructions only: an alias of R117 has the words of what it stands for,
so the words cannot tell it apart; the encoder takes every constructor. -/

namespace Sys2Proof

/-- Why bytes are no instruction. -/
inductive DecodeError where
  /-- fewer than two bytes. -/
  | noWord
  /-- the word matches no row of R111 (R113). -/
  | unassigned (w : Word)
  /-- a two-word instruction whose second word is missing (R68). -/
  | truncated (w : Word)
deriving DecidableEq, Repr

/-- One row of R111: a word is this instruction iff `w &&& mask = pattern`; `build` reads its operands from the first
and second word (R102, R103). -/
structure OpcodeRow where
  mnemonic : String
  mask     : Word
  pattern  : Word
  twoWords : Bool
  build    : Word → Word → Instr

-- Fields of an instruction word (R103, R104): bits of one letter from left to right, most significant first (R102).

/-- d or r = w[8:4]: any of R0..R31. -/
def fieldD5 (w : Word) : Reg := w.extractLsb' 4 5
/-- r = w[9]:w[3:0] of format RR. -/
def fieldR5 (w : Word) : Reg := w.extractLsb' 9 1 ++ w.extractLsb' 0 4
/-- d = 16 + w[7:4] of format RI and MULS. -/
def fieldDUpper (w : Word) : Reg := 1#1 ++ w.extractLsb' 4 4
/-- r = 16 + w[3:0] of MULS. -/
def fieldRUpper (w : Word) : Reg := 1#1 ++ w.extractLsb' 0 4
/-- d = 16 + w[6:4] of format RR3. -/
def fieldDMulsu (w : Word) : Reg := 2#2 ++ w.extractLsb' 4 3
/-- r = 16 + w[2:0] of format RR3. -/
def fieldRMulsu (w : Word) : Reg := 2#2 ++ w.extractLsb' 0 3
/-- d = 2 * w[7:4] of MOVW. -/
def fieldDEven (w : Word) : Reg := w.extractLsb' 4 4 ++ 0#1
/-- r = 2 * w[3:0] of MOVW. -/
def fieldREven (w : Word) : Reg := w.extractLsb' 0 4 ++ 0#1
/-- d = 24 + 2 * w[5:4] of format WI. -/
def fieldDPair (w : Word) : Reg := 3#2 ++ w.extractLsb' 4 2 ++ 0#1
/-- K = w[11:8]:w[3:0] of format RI. -/
def fieldK8 (w : Word) : Byte := w.extractLsb' 8 4 ++ w.extractLsb' 0 4
/-- K = w[7:6]:w[3:0] of format WI. -/
def fieldK6 (w : Word) : BitVec 6 := w.extractLsb' 6 2 ++ w.extractLsb' 0 4
/-- q = w[13]:w[11:10]:w[2:0] of format LDD. -/
def fieldQ (w : Word) : BitVec 6 := w.extractLsb' 13 1 ++ w.extractLsb' 10 2 ++ w.extractLsb' 0 3
/-- s = w[6:4] of format SREG. -/
def fieldS (w : Word) : BitVec 3 := w.extractLsb' 4 3
/-- b (or s of format BR) = w[2:0]. -/
def fieldB (w : Word) : BitVec 3 := w.extractLsb' 0 3
/-- k = w[9:3] of format BR. -/
def fieldK7 (w : Word) : BitVec 7 := w.extractLsb' 3 7
/-- k = w[11:0] of format REL12. -/
def fieldK12 (w : Word) : BitVec 12 := w.extractLsb' 0 12
/-- k = w[8:4]:w[0]:w2[15:0] of format ABS22. -/
def fieldK22 (w w2 : Word) : BitVec 22 := w.extractLsb' 4 5 ++ w.extractLsb' 0 1 ++ w2
/-- A = w[7:3] of format IOB. -/
def fieldA5 (w : Word) : BitVec 5 := w.extractLsb' 3 5
/-- A = w[10:9]:w[3:0] of format IO. -/
def fieldA6 (w : Word) : BitVec 6 := w.extractLsb' 9 2 ++ w.extractLsb' 0 4

/-- The complete opcode table (R111), sorted by pattern; the mnemonics are those of spec/opcode_table.json. -/
def opcodeTable : List OpcodeRow := [
  ⟨"NOP", 0xFFFF#16, 0x0000#16, false, fun _ _ => .nop⟩,
  ⟨"MOVW", 0xFF00#16, 0x0100#16, false, fun w _ => .movw (fieldDEven w) (fieldREven w)⟩,
  ⟨"MULS", 0xFF00#16, 0x0200#16, false, fun w _ => .muls (fieldDUpper w) (fieldRUpper w)⟩,
  ⟨"MULSU", 0xFF88#16, 0x0300#16, false, fun w _ => .mulsu (fieldDMulsu w) (fieldRMulsu w)⟩,
  ⟨"FMUL", 0xFF88#16, 0x0308#16, false, fun w _ => .fmul (fieldDMulsu w) (fieldRMulsu w)⟩,
  ⟨"FMULS", 0xFF88#16, 0x0380#16, false, fun w _ => .fmuls (fieldDMulsu w) (fieldRMulsu w)⟩,
  ⟨"FMULSU", 0xFF88#16, 0x0388#16, false, fun w _ => .fmulsu (fieldDMulsu w) (fieldRMulsu w)⟩,
  ⟨"CPC", 0xFC00#16, 0x0400#16, false, fun w _ => .cpc (fieldD5 w) (fieldR5 w)⟩,
  ⟨"SBC", 0xFC00#16, 0x0800#16, false, fun w _ => .sbc (fieldD5 w) (fieldR5 w)⟩,
  ⟨"ADD", 0xFC00#16, 0x0C00#16, false, fun w _ => .add (fieldD5 w) (fieldR5 w)⟩,
  ⟨"CPSE", 0xFC00#16, 0x1000#16, false, fun w _ => .cpse (fieldD5 w) (fieldR5 w)⟩,
  ⟨"CP", 0xFC00#16, 0x1400#16, false, fun w _ => .cp (fieldD5 w) (fieldR5 w)⟩,
  ⟨"SUB", 0xFC00#16, 0x1800#16, false, fun w _ => .sub (fieldD5 w) (fieldR5 w)⟩,
  ⟨"ADC", 0xFC00#16, 0x1C00#16, false, fun w _ => .adc (fieldD5 w) (fieldR5 w)⟩,
  ⟨"AND", 0xFC00#16, 0x2000#16, false, fun w _ => .and_ (fieldD5 w) (fieldR5 w)⟩,
  ⟨"EOR", 0xFC00#16, 0x2400#16, false, fun w _ => .eor (fieldD5 w) (fieldR5 w)⟩,
  ⟨"OR", 0xFC00#16, 0x2800#16, false, fun w _ => .or_ (fieldD5 w) (fieldR5 w)⟩,
  ⟨"MOV", 0xFC00#16, 0x2C00#16, false, fun w _ => .mov (fieldD5 w) (fieldR5 w)⟩,
  ⟨"CPI", 0xF000#16, 0x3000#16, false, fun w _ => .cpi (fieldDUpper w) (fieldK8 w)⟩,
  ⟨"SBCI", 0xF000#16, 0x4000#16, false, fun w _ => .sbci (fieldDUpper w) (fieldK8 w)⟩,
  ⟨"SUBI", 0xF000#16, 0x5000#16, false, fun w _ => .subi (fieldDUpper w) (fieldK8 w)⟩,
  ⟨"ORI", 0xF000#16, 0x6000#16, false, fun w _ => .ori (fieldDUpper w) (fieldK8 w)⟩,
  ⟨"ANDI", 0xF000#16, 0x7000#16, false, fun w _ => .andi (fieldDUpper w) (fieldK8 w)⟩,
  ⟨"LDD_Z+q", 0xD208#16, 0x8000#16, false, fun w _ => .lddZ (fieldD5 w) (fieldQ w)⟩,
  ⟨"LDD_Y+q", 0xD208#16, 0x8008#16, false, fun w _ => .lddY (fieldD5 w) (fieldQ w)⟩,
  ⟨"STD_Z+q", 0xD208#16, 0x8200#16, false, fun w _ => .stdZ (fieldQ w) (fieldD5 w)⟩,
  ⟨"STD_Y+q", 0xD208#16, 0x8208#16, false, fun w _ => .stdY (fieldQ w) (fieldD5 w)⟩,
  ⟨"LDS", 0xFE0F#16, 0x9000#16, true, fun w w2 => .lds (fieldD5 w) w2⟩,
  ⟨"LD_Z+", 0xFE0F#16, 0x9001#16, false, fun w _ => .ldZInc (fieldD5 w)⟩,
  ⟨"LD_-Z", 0xFE0F#16, 0x9002#16, false, fun w _ => .ldZDec (fieldD5 w)⟩,
  ⟨"LPM_Rd_Z", 0xFE0F#16, 0x9004#16, false, fun w _ => .lpmRd (fieldD5 w)⟩,
  ⟨"LPM_Rd_Z+", 0xFE0F#16, 0x9005#16, false, fun w _ => .lpmRdInc (fieldD5 w)⟩,
  ⟨"ELPM_Rd_Z", 0xFE0F#16, 0x9006#16, false, fun w _ => .elpmRd (fieldD5 w)⟩,
  ⟨"ELPM_Rd_Z+", 0xFE0F#16, 0x9007#16, false, fun w _ => .elpmRdInc (fieldD5 w)⟩,
  ⟨"LD_Y+", 0xFE0F#16, 0x9009#16, false, fun w _ => .ldYInc (fieldD5 w)⟩,
  ⟨"LD_-Y", 0xFE0F#16, 0x900A#16, false, fun w _ => .ldYDec (fieldD5 w)⟩,
  ⟨"LD_X", 0xFE0F#16, 0x900C#16, false, fun w _ => .ldX (fieldD5 w)⟩,
  ⟨"LD_X+", 0xFE0F#16, 0x900D#16, false, fun w _ => .ldXInc (fieldD5 w)⟩,
  ⟨"LD_-X", 0xFE0F#16, 0x900E#16, false, fun w _ => .ldXDec (fieldD5 w)⟩,
  ⟨"POP", 0xFE0F#16, 0x900F#16, false, fun w _ => .pop (fieldD5 w)⟩,
  ⟨"STS", 0xFE0F#16, 0x9200#16, true, fun w w2 => .sts w2 (fieldD5 w)⟩,
  ⟨"ST_Z+", 0xFE0F#16, 0x9201#16, false, fun w _ => .stZInc (fieldD5 w)⟩,
  ⟨"ST_-Z", 0xFE0F#16, 0x9202#16, false, fun w _ => .stZDec (fieldD5 w)⟩,
  ⟨"ST_Y+", 0xFE0F#16, 0x9209#16, false, fun w _ => .stYInc (fieldD5 w)⟩,
  ⟨"ST_-Y", 0xFE0F#16, 0x920A#16, false, fun w _ => .stYDec (fieldD5 w)⟩,
  ⟨"ST_X", 0xFE0F#16, 0x920C#16, false, fun w _ => .stX (fieldD5 w)⟩,
  ⟨"ST_X+", 0xFE0F#16, 0x920D#16, false, fun w _ => .stXInc (fieldD5 w)⟩,
  ⟨"ST_-X", 0xFE0F#16, 0x920E#16, false, fun w _ => .stXDec (fieldD5 w)⟩,
  ⟨"PUSH", 0xFE0F#16, 0x920F#16, false, fun w _ => .push (fieldD5 w)⟩,
  ⟨"COM", 0xFE0F#16, 0x9400#16, false, fun w _ => .com (fieldD5 w)⟩,
  ⟨"NEG", 0xFE0F#16, 0x9401#16, false, fun w _ => .neg (fieldD5 w)⟩,
  ⟨"SWAP", 0xFE0F#16, 0x9402#16, false, fun w _ => .swap (fieldD5 w)⟩,
  ⟨"INC", 0xFE0F#16, 0x9403#16, false, fun w _ => .inc (fieldD5 w)⟩,
  ⟨"ASR", 0xFE0F#16, 0x9405#16, false, fun w _ => .asr (fieldD5 w)⟩,
  ⟨"LSR", 0xFE0F#16, 0x9406#16, false, fun w _ => .lsr (fieldD5 w)⟩,
  ⟨"ROR", 0xFE0F#16, 0x9407#16, false, fun w _ => .ror (fieldD5 w)⟩,
  ⟨"BSET", 0xFF8F#16, 0x9408#16, false, fun w _ => .bset (fieldS w)⟩,
  ⟨"IJMP", 0xFFFF#16, 0x9409#16, false, fun _ _ => .ijmp⟩,
  ⟨"DEC", 0xFE0F#16, 0x940A#16, false, fun w _ => .dec (fieldD5 w)⟩,
  ⟨"JMP", 0xFE0E#16, 0x940C#16, true, fun w w2 => .jmp (fieldK22 w w2)⟩,
  ⟨"CALL", 0xFE0E#16, 0x940E#16, true, fun w w2 => .call (fieldK22 w w2)⟩,
  ⟨"EIJMP", 0xFFFF#16, 0x9419#16, false, fun _ _ => .eijmp⟩,
  ⟨"BCLR", 0xFF8F#16, 0x9488#16, false, fun w _ => .bclr (fieldS w)⟩,
  ⟨"RET", 0xFFFF#16, 0x9508#16, false, fun _ _ => .ret⟩,
  ⟨"ICALL", 0xFFFF#16, 0x9509#16, false, fun _ _ => .icall⟩,
  ⟨"RETI", 0xFFFF#16, 0x9518#16, false, fun _ _ => .reti⟩,
  ⟨"EICALL", 0xFFFF#16, 0x9519#16, false, fun _ _ => .eicall⟩,
  ⟨"SLEEP", 0xFFFF#16, 0x9588#16, false, fun _ _ => .sleep⟩,
  ⟨"BREAK", 0xFFFF#16, 0x9598#16, false, fun _ _ => .break_⟩,
  ⟨"WDR", 0xFFFF#16, 0x95A8#16, false, fun _ _ => .wdr⟩,
  ⟨"LPM", 0xFFFF#16, 0x95C8#16, false, fun _ _ => .lpm⟩,
  ⟨"ELPM", 0xFFFF#16, 0x95D8#16, false, fun _ _ => .elpm⟩,
  ⟨"SPM", 0xFFFF#16, 0x95E8#16, false, fun _ _ => .spm⟩,
  ⟨"ADIW", 0xFF00#16, 0x9600#16, false, fun w _ => .adiw (fieldDPair w) (fieldK6 w)⟩,
  ⟨"SBIW", 0xFF00#16, 0x9700#16, false, fun w _ => .sbiw (fieldDPair w) (fieldK6 w)⟩,
  ⟨"CBI", 0xFF00#16, 0x9800#16, false, fun w _ => .cbi (fieldA5 w) (fieldB w)⟩,
  ⟨"SBIC", 0xFF00#16, 0x9900#16, false, fun w _ => .sbic (fieldA5 w) (fieldB w)⟩,
  ⟨"SBI", 0xFF00#16, 0x9A00#16, false, fun w _ => .sbi (fieldA5 w) (fieldB w)⟩,
  ⟨"SBIS", 0xFF00#16, 0x9B00#16, false, fun w _ => .sbis (fieldA5 w) (fieldB w)⟩,
  ⟨"MUL", 0xFC00#16, 0x9C00#16, false, fun w _ => .mul (fieldD5 w) (fieldR5 w)⟩,
  ⟨"IN", 0xF800#16, 0xB000#16, false, fun w _ => .in_ (fieldD5 w) (fieldA6 w)⟩,
  ⟨"OUT", 0xF800#16, 0xB800#16, false, fun w _ => .out (fieldA6 w) (fieldD5 w)⟩,
  ⟨"RJMP", 0xF000#16, 0xC000#16, false, fun w _ => .rjmp (fieldK12 w)⟩,
  ⟨"RCALL", 0xF000#16, 0xD000#16, false, fun w _ => .rcall (fieldK12 w)⟩,
  ⟨"LDI", 0xF000#16, 0xE000#16, false, fun w _ => .ldi (fieldDUpper w) (fieldK8 w)⟩,
  ⟨"BRBS", 0xFC00#16, 0xF000#16, false, fun w _ => .brbs (fieldB w) (fieldK7 w)⟩,
  ⟨"BRBC", 0xFC00#16, 0xF400#16, false, fun w _ => .brbc (fieldB w) (fieldK7 w)⟩,
  ⟨"BLD", 0xFE08#16, 0xF800#16, false, fun w _ => .bld (fieldD5 w) (fieldB w)⟩,
  ⟨"BST", 0xFE08#16, 0xFA00#16, false, fun w _ => .bst (fieldD5 w) (fieldB w)⟩,
  ⟨"SBRC", 0xFE08#16, 0xFC00#16, false, fun w _ => .sbrc (fieldD5 w) (fieldB w)⟩,
  ⟨"SBRS", 0xFE08#16, 0xFE00#16, false, fun w _ => .sbrs (fieldD5 w) (fieldB w)⟩]

/-- R111: the row a word matches, if any (no two rows overlap, so the order does not matter). -/
def rowOf (w : Word) : Option OpcodeRow := opcodeTable.find? fun r => w &&& r.mask == r.pattern

/-- R110: the length in words of the instruction whose first word is w, from the bit pattern alone. -/
def instrLen (w : Word) : Nat :=
  if w &&& 0xFE0F#16 = 0x9000#16 ∨ w &&& 0xFE0F#16 = 0x9200#16 ∨ w &&& 0xFE0E#16 = 0x940C#16
      ∨ w &&& 0xFE0E#16 = 0x940E#16 then 2 else 1

/-- The decoder: the instruction at the front of a byte sequence, each word low byte first (R66), the first word first
(R68), and the bytes after it; words of no row are rejected by name (R113). -/
def decodeBytes : List Byte → Except DecodeError (Instr × List Byte)
  | lo :: hi :: rest =>
    match rowOf (hi ++ lo) with
    | none => .error (.unassigned (hi ++ lo))
    | some row =>
      if row.twoWords then
        match rest with
        | lo2 :: hi2 :: rest' => .ok (row.build (hi ++ lo) (hi2 ++ lo2), rest')
        | _ => .error (.truncated (hi ++ lo))
      else .ok (row.build (hi ++ lo) 0#16, rest)
  | _ => .error .noWord

/-- The bytes of words as the program memory holds them: each word low byte first (R66). -/
def bytesOfWords : List Word → List Byte
  | [] => []
  | w :: ws => lowByte w :: highByte w :: bytesOfWords ws

/-- The instruction the decoder reads from the first words of a sequence. -/
def decodeWords (ws : List Word) : Except DecodeError Instr :=
  (decodeBytes (bytesOfWords ws)).map Prod.fst

/-- The two words of an instruction whose bits are w in the numbering of spec/opcode_table.json: bit 0 is the least
significant bit of the first word, the second word is bits 31..16; only the low nbits bits are given, the rest are 0. -/
def tableWords (nbits w : Nat) : List Word :=
  [BitVec.ofNat 16 (w % 2 ^ nbits), BitVec.ofNat 16 (w % 2 ^ nbits / 65536)]

/-- The instruction the decoder reads from an instruction whose bits are w (`tableWords`); none where it rejects. -/
def decodeTableWord (nbits w : Nat) : Option Instr := (decodeWords (tableWords nbits w)).toOption

-- The encoder: each format of R103 with its fields put back.

/-- Format RR: `oooo oord dddd rrrr`. -/
def encodeRR (op : BitVec 6) (d r : Reg) : Word := op ++ r.extractLsb' 4 1 ++ d ++ r.extractLsb' 0 4
/-- Format RI: `oooo KKKK dddd KKKK`, d = 16 + dddd. -/
def encodeRI (op : BitVec 4) (d : Reg) (k : Byte) : Word :=
  op ++ k.extractLsb' 4 4 ++ d.extractLsb' 0 4 ++ k.extractLsb' 0 4
/-- Formats R1 and LS: `oooo oooR RRRR oooo`. -/
def encodeR1 (op : BitVec 7) (d : Reg) (op2 : BitVec 4) : Word := op ++ d ++ op2
/-- Format WI: `1001 011o KKdd KKKK`, d = 24 + 2 * dd. -/
def encodeWI (op : BitVec 8) (d : Reg) (k : BitVec 6) : Word :=
  op ++ k.extractLsb' 4 2 ++ d.extractLsb' 1 2 ++ k.extractLsb' 0 4
/-- MOVW: `0000 0001 dddd rrrr`, both fields halved. -/
def encodeMovw (d r : Reg) : Word := 0x01#8 ++ d.extractLsb' 1 4 ++ r.extractLsb' 1 4
/-- MULS: `0000 0010 dddd rrrr`, both fields from R16. -/
def encodeMuls (d r : Reg) : Word := 0x02#8 ++ d.extractLsb' 0 4 ++ r.extractLsb' 0 4
/-- Format RR3: `0000 0011 oddd orrr`, both fields from R16. -/
def encodeRR3 (o1 : BitVec 1) (d : Reg) (o2 : BitVec 1) (r : Reg) : Word :=
  0x03#8 ++ o1 ++ d.extractLsb' 0 3 ++ o2 ++ r.extractLsb' 0 3
/-- Format SREG: `1001 0100 osss 1000`. -/
def encodeSreg (o : BitVec 1) (b : BitVec 3) : Word := 0x94#8 ++ o ++ b ++ 8#4
/-- Format RB: `1111 1ooR RRRR 0bbb`. -/
def encodeRB (op : BitVec 7) (d : Reg) (b : BitVec 3) : Word := op ++ d ++ 0#1 ++ b
/-- Format BR: `1111 0okk kkkk ksss`. -/
def encodeBR (op : BitVec 6) (b : BitVec 3) (k : BitVec 7) : Word := op ++ k ++ b
/-- Format REL12: `110o kkkk kkkk kkkk`. -/
def encodeRel12 (op : BitVec 4) (k : BitVec 12) : Word := op ++ k
/-- Format ABS22: `1001 010k kkkk 11ok` + `kkkk kkkk kkkk kkkk`. -/
def encodeAbs22 (op : BitVec 3) (k : BitVec 22) : List Word :=
  [0b1001010#7 ++ k.extractLsb' 17 5 ++ op ++ k.extractLsb' 16 1, k.extractLsb' 0 16]
/-- Format IOB: `1001 10oo AAAA Abbb`. -/
def encodeIOB (op : BitVec 8) (a : BitVec 5) (b : BitVec 3) : Word := op ++ a ++ b
/-- Format IO: `1011 oAAR RRRR AAAA`. -/
def encodeIO (op : BitVec 5) (a : BitVec 6) (d : Reg) : Word := op ++ a.extractLsb' 4 2 ++ d ++ a.extractLsb' 0 4
/-- Format LDD: `10q0 qqoR RRRR yqqq`. -/
def encodeLDD (o : BitVec 1) (d : Reg) (y : BitVec 1) (q : BitVec 6) : Word :=
  2#2 ++ q.extractLsb' 5 1 ++ 0#1 ++ q.extractLsb' 3 2 ++ o ++ d ++ y ++ q.extractLsb' 0 3

/-- The words of an instruction (R103, R111; aliases R117). -/
def encode : Instr → List Word
  | .nop => [0x0000#16]
  | .movw d r => [encodeMovw d r]
  | .muls d r => [encodeMuls d r]
  | .mulsu d r => [encodeRR3 0b0#1 d 0b0#1 r]
  | .fmul d r => [encodeRR3 0b0#1 d 0b1#1 r]
  | .fmuls d r => [encodeRR3 0b1#1 d 0b0#1 r]
  | .fmulsu d r => [encodeRR3 0b1#1 d 0b1#1 r]
  | .cpc d r => [encodeRR 0b000001#6 d r]
  | .sbc d r => [encodeRR 0b000010#6 d r]
  | .add d r => [encodeRR 0b000011#6 d r]
  | .cpse d r => [encodeRR 0b000100#6 d r]
  | .cp d r => [encodeRR 0b000101#6 d r]
  | .sub d r => [encodeRR 0b000110#6 d r]
  | .adc d r => [encodeRR 0b000111#6 d r]
  | .and_ d r => [encodeRR 0b001000#6 d r]
  | .eor d r => [encodeRR 0b001001#6 d r]
  | .or_ d r => [encodeRR 0b001010#6 d r]
  | .mov d r => [encodeRR 0b001011#6 d r]
  | .cpi d k => [encodeRI 0b0011#4 d k]
  | .sbci d k => [encodeRI 0b0100#4 d k]
  | .subi d k => [encodeRI 0b0101#4 d k]
  | .ori d k => [encodeRI 0b0110#4 d k]
  | .andi d k => [encodeRI 0b0111#4 d k]
  | .lddZ d q => [encodeLDD 0b0#1 d 0b0#1 q]
  | .lddY d q => [encodeLDD 0b0#1 d 0b1#1 q]
  | .stdZ q r => [encodeLDD 0b1#1 r 0b0#1 q]
  | .stdY q r => [encodeLDD 0b1#1 r 0b1#1 q]
  | .lds d k => [encodeR1 0b1001000#7 d 0b0000#4, k]
  | .ldZInc d => [encodeR1 0b1001000#7 d 0b0001#4]
  | .ldZDec d => [encodeR1 0b1001000#7 d 0b0010#4]
  | .lpmRd d => [encodeR1 0b1001000#7 d 0b0100#4]
  | .lpmRdInc d => [encodeR1 0b1001000#7 d 0b0101#4]
  | .elpmRd d => [encodeR1 0b1001000#7 d 0b0110#4]
  | .elpmRdInc d => [encodeR1 0b1001000#7 d 0b0111#4]
  | .ldYInc d => [encodeR1 0b1001000#7 d 0b1001#4]
  | .ldYDec d => [encodeR1 0b1001000#7 d 0b1010#4]
  | .ldX d => [encodeR1 0b1001000#7 d 0b1100#4]
  | .ldXInc d => [encodeR1 0b1001000#7 d 0b1101#4]
  | .ldXDec d => [encodeR1 0b1001000#7 d 0b1110#4]
  | .pop d => [encodeR1 0b1001000#7 d 0b1111#4]
  | .sts k r => [encodeR1 0b1001001#7 r 0b0000#4, k]
  | .stZInc r => [encodeR1 0b1001001#7 r 0b0001#4]
  | .stZDec r => [encodeR1 0b1001001#7 r 0b0010#4]
  | .stYInc r => [encodeR1 0b1001001#7 r 0b1001#4]
  | .stYDec r => [encodeR1 0b1001001#7 r 0b1010#4]
  | .stX r => [encodeR1 0b1001001#7 r 0b1100#4]
  | .stXInc r => [encodeR1 0b1001001#7 r 0b1101#4]
  | .stXDec r => [encodeR1 0b1001001#7 r 0b1110#4]
  | .push r => [encodeR1 0b1001001#7 r 0b1111#4]
  | .com d => [encodeR1 0b1001010#7 d 0b0000#4]
  | .neg d => [encodeR1 0b1001010#7 d 0b0001#4]
  | .swap d => [encodeR1 0b1001010#7 d 0b0010#4]
  | .inc d => [encodeR1 0b1001010#7 d 0b0011#4]
  | .asr d => [encodeR1 0b1001010#7 d 0b0101#4]
  | .lsr d => [encodeR1 0b1001010#7 d 0b0110#4]
  | .ror d => [encodeR1 0b1001010#7 d 0b0111#4]
  | .bset b => [encodeSreg 0b0#1 b]
  | .ijmp => [0x9409#16]
  | .dec d => [encodeR1 0b1001010#7 d 0b1010#4]
  | .jmp k => encodeAbs22 0b110#3 k
  | .call k => encodeAbs22 0b111#3 k
  | .eijmp => [0x9419#16]
  | .bclr b => [encodeSreg 0b1#1 b]
  | .ret => [0x9508#16]
  | .icall => [0x9509#16]
  | .reti => [0x9518#16]
  | .eicall => [0x9519#16]
  | .sleep => [0x9588#16]
  | .break_ => [0x9598#16]
  | .wdr => [0x95A8#16]
  | .lpm => [0x95C8#16]
  | .elpm => [0x95D8#16]
  | .spm => [0x95E8#16]
  | .adiw d k => [encodeWI 0b10010110#8 d k]
  | .sbiw d k => [encodeWI 0b10010111#8 d k]
  | .cbi a b => [encodeIOB 0b10011000#8 a b]
  | .sbic a b => [encodeIOB 0b10011001#8 a b]
  | .sbi a b => [encodeIOB 0b10011010#8 a b]
  | .sbis a b => [encodeIOB 0b10011011#8 a b]
  | .mul d r => [encodeRR 0b100111#6 d r]
  | .in_ d a => [encodeIO 0b10110#5 a d]
  | .out a r => [encodeIO 0b10111#5 a r]
  | .rjmp k => [encodeRel12 0b1100#4 k]
  | .rcall k => [encodeRel12 0b1101#4 k]
  | .ldi d k => [encodeRI 0b1110#4 d k]
  | .brbs b k => [encodeBR 0b111100#6 b k]
  | .brbc b k => [encodeBR 0b111101#6 b k]
  | .bld d b => [encodeRB 0b1111100#7 d b]
  | .bst d b => [encodeRB 0b1111101#7 d b]
  | .sbrc r b => [encodeRB 0b1111110#7 r b]
  | .sbrs r b => [encodeRB 0b1111111#7 r b]
  | .brcc k => [encodeBR 0b111101#6 0b000#3 k]
  | .brcs k => [encodeBR 0b111100#6 0b000#3 k]
  | .brsh k => [encodeBR 0b111101#6 0b000#3 k]
  | .brlo k => [encodeBR 0b111100#6 0b000#3 k]
  | .brne k => [encodeBR 0b111101#6 0b001#3 k]
  | .breq k => [encodeBR 0b111100#6 0b001#3 k]
  | .brpl k => [encodeBR 0b111101#6 0b010#3 k]
  | .brmi k => [encodeBR 0b111100#6 0b010#3 k]
  | .brvc k => [encodeBR 0b111101#6 0b011#3 k]
  | .brvs k => [encodeBR 0b111100#6 0b011#3 k]
  | .brge k => [encodeBR 0b111101#6 0b100#3 k]
  | .brlt k => [encodeBR 0b111100#6 0b100#3 k]
  | .brhc k => [encodeBR 0b111101#6 0b101#3 k]
  | .brhs k => [encodeBR 0b111100#6 0b101#3 k]
  | .brtc k => [encodeBR 0b111101#6 0b110#3 k]
  | .brts k => [encodeBR 0b111100#6 0b110#3 k]
  | .brid k => [encodeBR 0b111101#6 0b111#3 k]
  | .brie k => [encodeBR 0b111100#6 0b111#3 k]
  | .bric k => [encodeBR 0b111100#6 0b111#3 k]
  | .sec => [0x9408#16]
  | .sez => [0x9418#16]
  | .sen => [0x9428#16]
  | .sev => [0x9438#16]
  | .ses => [0x9448#16]
  | .seh => [0x9458#16]
  | .set_ => [0x9468#16]
  | .sei => [0x9478#16]
  | .clc => [0x9488#16]
  | .clz => [0x9498#16]
  | .cln => [0x94A8#16]
  | .clv => [0x94B8#16]
  | .cls => [0x94C8#16]
  | .clh => [0x94D8#16]
  | .clt => [0x94E8#16]
  | .cli => [0x94F8#16]
  | .clr d => [encodeRR 0b001001#6 d d]
  | .ser d => [encodeRI 0b1110#4 d 0xFF#8]
  | .tst d => [encodeRR 0b001000#6 d d]
  | .lsl d => [encodeRR 0b000011#6 d d]
  | .rol d => [encodeRR 0b000111#6 d d]
  | .cbr d k => [encodeRI 0b0111#4 d (0xFF#8 - k)]
  | .sbr d k => [encodeRI 0b0110#4 d k]
  | .ldY d => [encodeLDD 0b0#1 d 0b1#1 0#6]
  | .ldZ d => [encodeLDD 0b0#1 d 0b0#1 0#6]
  | .stY r => [encodeLDD 0b1#1 r 0b1#1 0#6]
  | .stZ r => [encodeLDD 0b1#1 r 0b0#1 0#6]

/-- The first word of an instruction: what the fault for an absent or refused instruction records (R400). -/
def firstWord (i : Instr) : Word := (encode i).headD 0#16

end Sys2Proof
end

