-- ==== Sys2Proof/Machine/Ops.lean ====
section
/-! DEFINITION. The named operations over memory, registers, the I/O space and the program memory; taking an interrupt
and returning from one (10_state.md, 20_memory.md, 60_exceptions.md R404 to R411). -/

namespace Sys2Proof.Machine

-- Memory as canonical lists.

/-- The byte at an address; `dflt` is what an unlisted address holds (`none`: nothing). -/
def Memory.read (dflt : Option Byte) : Memory → Nat → Option Byte
  | [], _ => dflt
  | (k, v) :: m, a => if k = a then some v else Memory.read dflt m a

/-- Store a byte, keeping the canonical form: a byte equal to what an unlisted address holds is not listed. -/
def Memory.write (dflt : Option Byte) : Memory → Nat → Byte → Memory
  | [], a, v => if dflt = some v then [] else [(a, v)]
  | (k, w) :: m, a, v =>
    if a < k then (if dflt = some v then (k, w) :: m else (a, v) :: (k, w) :: m)
    else if a = k then (if dflt = some v then m else (a, v) :: m)
    else (k, w) :: Memory.write dflt m a v

/-- Every address of a memory is greater than `lo`, and addresses strictly rise. -/
def Memory.risesFrom : Nat → Memory → Bool
  | _, [] => true
  | lo, (k, _) :: m => decide (lo < k) && Memory.risesFrom k m

/-- Addresses strictly rise. -/
def Memory.rising : Memory → Bool
  | [] => true
  | (k, _) :: m => Memory.risesFrom k m

/-- The canonical form: addresses strictly rise and no entry holds what an unlisted address holds. -/
def Memory.wf (dflt : Option Byte) (m : Memory) : Bool :=
  Memory.rising m && m.all fun c => !decide (dflt = some c.2)

/-- Every listed address lies in lo..hi-1. -/
def Memory.within (lo hi : Nat) (m : Memory) : Bool := m.all fun c => decide (lo ≤ c.1) && decide (c.1 < hi)

-- The outcome of an effect that may fault.

/-- The step's outcome: the next state, or the fault (R400). -/
def orFault (r : Except Fault State) : Host.Outcome State Fault Refusal :=
  match r with
  | .ok s => .next s
  | .error f => .fault f

/-- An instruction of an optional group: on a part without the group it is an unassigned word (R114). -/
def ifPresent (present : Bool) (i : Instr) (s : State) (k : Host.Outcome State Fault Refusal) :
    Host.Outcome State Fault Refusal :=
  if present then k else .fault (.unassignedOpcode s.pc (firstWord i))

-- General registers and pairs.

/-- `x[d]` (R8, R20): no register is hard-wired. -/
def State.reg (s : State) (d : Reg) : Byte := s.regs[d.toNat]'d.isLt

/-- `x[d] <- v` (R8). -/
def State.setReg (s : State) (d : Reg) (v : Byte) : State := { s with regs := s.regs.set d.toNat v d.isLt }

/-- `x[d+1]:x[d]` (R8, R21, R65). -/
def State.pair (s : State) (d : Reg) : Word := s.reg (d + 1) ++ s.reg d

/-- Write both bytes of a pair, high byte to the higher register (R8, R65). -/
def State.setPair (s : State) (d : Reg) (v : Word) : State := (s.setReg (d + 1) (highByte v)).setReg d (lowByte v)

/-- The low register of X (R21). -/
def regX : Reg := 26#5
/-- The low register of Y (R21). -/
def regY : Reg := 28#5
/-- The low register of Z (R21). -/
def regZ : Reg := 30#5

/-- The pointer Z = R31:R30 (R21). -/
def State.z (s : State) : Word := s.pair regZ

-- Program counter and stack pointer.

/-- A program-counter value reduced modulo 2^`PC_BITS` (R8, R25). -/
def pcMod (p : Part) (a : PcWord) : PcWord :=
  match p.pcWidth with
  | .bits22 => a
  | .bits16 => (a.extractLsb' 0 16).setWidth 22

/-- `RET_BYTES` (R4): 2 with a 16-bit PC, 3 with a 22-bit PC. -/
def retBytes (p : Part) : Nat :=
  match p.pcWidth with
  | .bits22 => 3
  | .bits16 => 2

/-- `pc + n` modulo 2^`PC_BITS` (R25). -/
def State.pcPlus (s : State) (n : PcWord) : PcWord := pcMod s.part (s.pc + n)

/-- `pc <- target` (R8). -/
def State.jump (s : State) (target : PcWord) : State := { s with pc := pcMod s.part target }

/-- End of an instruction of n words that does not transfer control: `pc <- pc + n` (R25). -/
def State.advance (s : State) (n : PcWord) : State := s.jump (s.pc + n)

/-- A stack-pointer value reduced modulo 2^`SP_BITS` (R74). -/
def spMod (p : Part) (a : Word) : Word :=
  match p.spWidth with
  | .bits16 => a
  | .bits8 => (a.extractLsb' 0 8).setWidth 16

/-- `SP <- v`, modulo 2^`SP_BITS`. -/
def State.setSp (s : State) (v : Word) : State := { s with sp := spMod s.part v }

/-- Write SREG whole. -/
def State.setSreg (s : State) (v : Byte) : State := { s with sreg := v }

-- The I/O space (R63, R72). SFRs are named by data-space address: SFR number A is at $20 + A (R62).

/-- The data-space address of SFR number A (R62). -/
def sfrAddr (a : Nat) : Nat := a + 0x20

/-- The architectural registers aliased into the I/O space (R34). -/
inductive CoreSfr where
  | sreg
  | sph
  | spl
  | eind
  | rampz
  | mcucr
deriving DecidableEq, Repr

/-- Which architectural register, if any, holds the byte at a data-space address of the SFRs (R34; EIND and RAMPZ exist
only with `HAS_EXT`, R30, R31; MCUCR where the part puts it, R32). -/
def archSfrAt (p : Part) (a : Nat) : Option CoreSfr :=
  if a = sfrAddr 0x3F then some .sreg
  else if a = sfrAddr 0x3E then some .sph
  else if a = sfrAddr 0x3D then some .spl
  else if a = sfrAddr 0x3C ∧ p.hasExt = true then some .eind
  else if a = sfrAddr 0x3B ∧ p.hasExt = true then some .rampz
  else if p.mcucrAddr = some a then some .mcucr
  else none

/-- `IoBehaviour` of the SFR at a data-space address; `none`: undescribed (R72). -/
def sfrKindAt (p : Part) (a : Nat) : Option SfrKind :=
  match p.sfrKinds.lookup a with
  | some k => some k
  | none => p.sfrDefault

/-- Which architectural register, if any, an access at a data-space address of the SFRs reads or writes plainly (R34).
MCUCR is one where `IoBehaviour` makes its address plain storage; else an access there is what `IoBehaviour` says, or the
fault of an undescribed SFR (R32, R44, R72). -/
def coreSfrAt (p : Part) (a : Nat) : Option CoreSfr :=
  match archSfrAt p a with
  | some .mcucr => if sfrKindAt p a = some .storage then some .mcucr else none
  | c => c

/-- What an architectural register gives as an SFR (R34). -/
def State.coreRead (s : State) : CoreSfr → Byte
  | .sreg => s.sreg
  | .sph => highByte s.sp
  | .spl => lowByte s.sp
  | .eind => s.eind
  | .rampz => s.rampz
  | .mcucr => s.mcucr

/-- A write of SREG as an SFR sets all eight flags (R34); when it takes I from 0 to 1, whether `irq_delay` is set is a
free choice (R411); else a running one goes on. -/
def State.writeSreg (s : State) (v : Byte) : State :=
  if !s.sreg.getLsbD 7 && v.getLsbD 7 then
    { s with sreg := v, irqDelay := if Config.sregWriteDelays s.draws then .set else s.irqDelay, draws := s.draws + 1 }
  else { s with sreg := v }

/-- A write of an architectural register as an SFR (R34): SP one byte at a time (R455), its high byte discarded where
`SP_BITS` = 8. -/
def State.coreWrite (s : State) (c : CoreSfr) (v : Byte) : State :=
  match c with
  | .sreg => s.writeSreg v
  | .sph => s.setSp (v ++ lowByte s.sp)
  | .spl => s.setSp (highByte s.sp ++ v)
  | .eind => { s with eind := v }
  | .rampz => { s with rampz := v }
  | .mcucr => { s with mcucr := v }

/-- The byte an SFR holds; one never written holds $00 or its reset byte (R44). -/
def State.sfrByte (s : State) (a : Nat) : Byte := (Memory.read (some 0#8) s.sfr a).getD 0#8

/-- The byte at an SFR's data-space address as it stands, without the effects of an access: the SFR state that an
interrupt source's enable predicate looks at (R402 (c)). -/
def State.sfrView (s : State) (a : Nat) : Byte :=
  match archSfrAt s.part a with
  | some c => s.coreRead c
  | none => s.sfrByte a

/-- The byte an SFR holds becomes v. -/
def State.setSfrByte (s : State) (a : Nat) (v : Byte) : State := { s with sfr := Memory.write (some 0#8) s.sfr a v }

/-- The byte at an SFR's data-space address becomes v, without the effects of an access. -/
def State.setSfrView (s : State) (a : Nat) (v : Byte) : State :=
  match archSfrAt s.part a with
  | some c => s.coreWrite c v
  | none => s.setSfrByte a v

/-- The observer outside sees one more access (R456). -/
def State.observe (s : State) (e : IoEvent) : State := { s with ioLog := s.ioLog ++ [e] }

/-- One free value has been drawn. -/
def State.drawn (s : State) : State := { s with draws := s.draws + 1 }

/-- Whether writing v to the SFR at a withdraws the request of a source: v has a 1 at the source's flag (R71, R403). -/
def withdrawnBy (src : IrqSource) (a : Nat) (v : Byte) : Bool :=
  match src.flag with
  | some f => decide (f.addr = a) && v.getLsbD f.bit.toNat
  | none => false

/-- The requests that remain when software writes v to the flags at a (R403). -/
def State.withdraw (s : State) (a : Nat) (v : Byte) : State :=
  { s with irqPending := s.irqPending.filter fun n => !((s.part.irqs[n]?).any fun src => withdrawnBy src a v) }

/-- The byte SRAM holds at an address, if one has been written. -/
def State.sramByte (s : State) (a : Nat) : Option Byte := Memory.read none s.sram a

/-- What a data-space address resolves to (R62). -/
inductive DataPlace where
  | register (d : Reg)
  | sfr
  | sram
  | unimplemented
deriving DecidableEq, Repr

/-- `DataMap` (R62): the classic layout with the part's `SRAM_START` and `RAMEND`. -/
def dataPlace (p : Part) (a : Word) : DataPlace :=
  if a.toNat < 0x20 then .register (a.setWidth 5)
  else if a.toNat < 0x60 then .sfr
  else if a.toNat < p.sramStart then .sfr
  else if a.toNat ≤ p.ramEnd then .sram
  else .unimplemented

-- The read and write functions of described SFRs (R72).

/-- A Boolean as a byte: $01 or $00. -/
def flagByte (b : Bool) : Byte := if b then 1#8 else 0#8

/-- The byte of a cell as it stands, without the effects of an access; free where nothing holds one. -/
def State.cellByte (s : State) : IoCell → Byte
  | .data a =>
    match dataPlace s.part a with
    | .register d => s.reg d
    | .sfr => s.sfrView a.toNat
    | .sram => (s.sramByte a.toNat).getD (Config.unwrittenByte a.toNat)
    | .unimplemented => Config.unwrittenByte a.toNat
  | .request n => flagByte (decide (n ∈ s.irqPending))
  | .sleeping => flagByte s.sleeping
  | .irqDelay => flagByte (s.irqDelay != .off)
  | .watchdog => BitVec.ofNat 8 s.wdtCount

/-- The value of an expression in a state, with the byte the program writes (R72). -/
def State.ioValue (s : State) (written : Byte) : IoExpr → Byte
  | .const v => v
  | .written => written
  | .oracle k => Config.deviceByte s.draws k
  | .cell c => s.cellByte c
  | .complement e => ~~~s.ioValue written e
  | .conj e f => s.ioValue written e &&& s.ioValue written f
  | .disj e f => s.ioValue written e ||| s.ioValue written f
  | .exclusive e f => s.ioValue written e ^^^ s.ioValue written f
  | .plus e f => s.ioValue written e + s.ioValue written f
  | .minus e f => s.ioValue written e - s.ioValue written f
  | .shiftLeft e n => s.ioValue written e <<< n
  | .shiftRight e n => s.ioValue written e >>> n
  | .choose c t f => if s.ioValue written c = 0#8 then s.ioValue written f else s.ioValue written t

/-- The request of one source is raised or withdrawn (R403). -/
def State.setRequest (s : State) (n : Nat) (raised : Bool) : State :=
  { s with
    irqPending := (List.range s.part.irqs.length).filter fun m => if m = n then raised else decide (m ∈ s.irqPending) }

/-- The byte of a cell becomes v, without the effects of an access; nothing where there is no such cell. -/
def State.setCell (s : State) (c : IoCell) (v : Byte) : State :=
  match c with
  | .data a =>
    match dataPlace s.part a with
    | .register d => s.setReg d v
    | .sfr => s.setSfrView a.toNat v
    | .sram => { s with sram := Memory.write none s.sram a.toNat v }
    | .unimplemented => s
  | .request n => s.setRequest n (v != 0#8)
  | .sleeping => { s with sleeping := v != 0#8 }
  | .irqDelay => { s with irqDelay := if v = 0#8 then .off else .set }
  | .watchdog => { s with wdtCount := if s.part.watchdog.isSome then v.toNat else s.wdtCount }

/-- Cells get their values, in the order of the list. -/
def State.setCells (s : State) (l : List (IoCell × Byte)) : State := l.foldl (fun t c => t.setCell c.1 c.2) s

/-- What the effects of an access change: every value is that of the state before (R72). -/
def State.applyEffects (s : State) (written : Byte) (es : List IoEffect) : State :=
  s.setCells (es.map fun e => (e.cell, s.ioValue written e.value))

/-- `IoRead` of the SFR at a data-space address (R63, R72), with the read's side effects. -/
def State.ioRead (s : State) (a : Nat) : Except Fault (Byte × State) :=
  match coreSfrAt s.part a with
  | some c => .ok (s.coreRead c, s.observe (.read a (s.coreRead c)))
  | none =>
    match sfrKindAt s.part a with
    | none => .error (.sfrUndescribed a)
    | some .storage => .ok (s.sfrByte a, s.observe (.read a (s.sfrByte a)))
    | some .pins => .ok (Config.pinByte s.draws, (s.observe (.read a (Config.pinByte s.draws))).drawn)
    | some .flags =>
      let v := s.sfrView a ||| Config.flagsRaised s.draws
      .ok (v, ((s.setSfrView a v).observe (.read a v)).drawn)
    | some (.described b) =>
      let v := s.ioValue 0#8 b.readValue
      .ok (v, ((s.applyEffects 0#8 b.onRead).observe (.read a v)).drawn)

/-- `IoWrite` of the SFR at a data-space address (R63, R71, R72). -/
def State.ioWrite (s : State) (a : Nat) (v : Byte) : Except Fault State :=
  match coreSfrAt s.part a with
  | some c => .ok ((s.coreWrite c v).observe (.write a v))
  | none =>
    match sfrKindAt s.part a with
    | none => .error (.sfrUndescribed a)
    | some .storage => .ok ((s.setSfrByte a v).observe (.write a v))
    | some .pins => .ok (s.observe (.write a v))
    | some .flags => .ok (((s.setSfrView a (s.sfrView a &&& ~~~v)).withdraw a v).observe (.write a v))
    | some (.described b) => .ok (((s.applyEffects v b.onWrite).observe (.write a v)).drawn)

-- The data space (R61, R62).

/-- `MemRead(addr, 1)` (R61, R62). -/
def State.memRead (s : State) (a : Word) : Except Fault (Byte × State) :=
  match dataPlace s.part a with
  | .register d => .ok (s.reg d, s)
  | .sfr => s.ioRead a.toNat
  | .sram =>
    match s.sramByte a.toNat with
    | some v => .ok (v, s)
    | none => .error (.unwrittenRead a)
  | .unimplemented => .error (.dataAddressUnimplemented a)

/-- `MemWrite(addr, 1, v)` (R61, R62). -/
def State.memWrite (s : State) (a : Word) (v : Byte) : Except Fault State :=
  match dataPlace s.part a with
  | .register d => .ok (s.setReg d v)
  | .sfr => s.ioWrite a.toNat v
  | .sram => .ok { s with sram := Memory.write none s.sram a.toNat v }
  | .unimplemented => .error (.dataAddressUnimplemented a)

-- The stack (R29, R67, R73).

/-- `Push8(v)`: store at SP, then SP - 1 (R8, R321). -/
def State.push8 (s : State) (v : Byte) : Except Fault State :=
  (s.memWrite s.sp v).bind fun s1 => .ok (s1.setSp (s1.sp - 1))

/-- `Pop8()`: SP + 1, then load from the new SP (R8, R322). -/
def State.pop8 (s : State) : Except Fault (Byte × State) :=
  let s1 := s.setSp (s.sp + 1)
  s1.memRead s1.sp

/-- `PushPC(a)`: low byte first, then the next, and the top byte with a 22-bit PC (R67). -/
def State.pushPc (s : State) (a : PcWord) : Except Fault State :=
  (s.push8 (a.extractLsb' 0 8)).bind fun s1 =>
    (s1.push8 (a.extractLsb' 8 8)).bind fun s2 =>
      match s.part.pcWidth with
      | .bits16 => .ok s2
      | .bits22 => s2.push8 ((a.extractLsb' 16 6).setWidth 8)

/-- `PopPC()`: the bytes in reverse; with a 22-bit PC the two top bits of the third are ignored (R67, R251). -/
def State.popPc (s : State) : Except Fault (PcWord × State) :=
  match s.part.pcWidth with
  | .bits16 =>
    s.pop8.bind fun h => h.2.pop8.bind fun l => .ok ((h.1 ++ l.1).setWidth 22, l.2)
  | .bits22 =>
    s.pop8.bind fun e => e.2.pop8.bind fun h => h.2.pop8.bind fun l =>
      .ok (e.1.extractLsb' 0 6 ++ h.1 ++ l.1, l.2)

-- The program memory (R37, R64, R66).

/-- The byte of the image at a program byte address inside `FLASH_WORDS`. -/
def State.imageByte (s : State) (b : Nat) : Option Byte :=
  if b < 2 * s.part.flashWords then Memory.read none s.prog b else none

/-- `ProgWord(w)`: defined where the image defines both bytes, the even one low (R64, R66). -/
def State.progWord (s : State) (w : Nat) : Option Word :=
  match s.imageByte (2 * w), s.imageByte (2 * w + 1) with
  | some lo, some hi => some (hi ++ lo)
  | _, _ => none

/-- `ProgByte(b)` (R66); outside the image a fault. -/
def State.progByte (s : State) (b : Nat) : Except Fault Byte :=
  match s.progWord (b / 2) with
  | some w => .ok (if b % 2 = 0 then lowByte w else highByte w)
  | none => .error (.programImageUndefined b)

/-- `ProgWord(pc)`, the fetch of an instruction's first word; outside the image a fault (R25, R64). -/
def State.fetchWord (s : State) : Except Fault Word :=
  match s.progWord s.pc.toNat with
  | some w => .ok w
  | none => .error (.fetchOutOfRange s.pc)

/-- `ProgWord(pc + 1)`: the second word of an instruction, or the word a skip inspects. After the last word of the
program memory there is none, also where the counter would wrap to 0 (R461, D30). -/
def State.nextWord (s : State) : Except Fault Word :=
  match s.progWord (s.pc.toNat + 1) with
  | some w => .ok w
  | none => .error (.fetchOutOfRange (s.pcPlus 1))

/-- Place a word of a program image from outside the machine (R453). -/
def State.loadWord (s : State) (a : Nat) (w : Word) : State :=
  { s with prog := Memory.write none (Memory.write none s.prog (2 * a) (lowByte w)) (2 * a + 1) (highByte w) }

-- Interrupts: acceptance, entry, return (60_exceptions.md).

/-- Whether a source's own enable predicate holds (R402 (c)). -/
def State.irqEnabled (s : State) (src : IrqSource) : Bool :=
  match src.enable with
  | some e => s.ioValue 0#8 e != 0#8
  | none => true

/-- The sources with a raised request and their enable set, with their places in the table (R404). -/
def State.irqCandidates (s : State) : List (IrqSource × Nat) :=
  s.part.irqs.zipIdx.filter fun c => decide (c.2 ∈ s.irqPending) && s.irqEnabled c.1

/-- A source goes before another: by rank, and by vector address, the lowest first, where the ranks are equal (R406). -/
def goesBefore (b c : IrqSource) : Bool :=
  decide (b.rank < c.rank ∨ b.rank = c.rank ∧ b.vector.toNat < c.vector.toNat)

/-- The candidate of best rank (R406). -/
def bestRanked : List (IrqSource × Nat) → Option (IrqSource × Nat)
  | [] => none
  | c :: cs =>
    match bestRanked cs with
    | none => some c
    | some b => if goesBefore b.1 c.1 then some b else some c

/-- The source accepted at this boundary, if any: `stopped` false, SREG.I = 1, `irq_delay` false, some source
requesting and enabled (R404). -/
def State.accepted (s : State) : Option (IrqSource × Nat) :=
  match bestRanked s.irqCandidates with
  | none => none
  | some c => if !s.stopped && s.sreg.getLsbD 7 && s.irqDelay == .off then some c else none

/-- SREG with bit b set or cleared. -/
def sregWithBit (sr : Byte) (b : BitVec 3) (v : Bool) : Byte :=
  if v then sr ||| (1#8 <<< b.toNat) else sr &&& ~~~(1#8 <<< b.toNat)

/-- TAKING AN INTERRUPT (R407): `sleeping` ends, the PC is pushed, I is cleared, the request is acknowledged, control
goes to the vector; nothing else is saved. -/
def State.enterInterrupt (s : State) (src : IrqSource) (n : Nat) : Except Fault State :=
  ({ s with sleeping := false }.pushPc s.pc).bind fun s1 =>
    .ok ({ s1 with
      sreg := sregWithBit s1.sreg 7 false
      irqPending := if src.ackClears then s1.irqPending.filter (fun k => k != n) else s1.irqPending }.jump src.vector)

/-- RETURNING FROM AN INTERRUPT (R252, R409, R411): the PC is popped, I is set, `irq_delay` is set; nothing else is
restored. -/
def State.leaveInterrupt (s : State) : Except Fault State :=
  s.popPc.bind fun p =>
    .ok ({ p.2 with sreg := sregWithBit p.2.sreg 7 true, irqDelay := .set }.jump p.1)

/-- The requests at the coming boundary (R403): a pending one stays unless its device withdraws it, a device may raise
a new one; both are free. -/
def State.receiveRequests (s : State) : State :=
  if s.part.irqs.isEmpty then s
  else { s with
    irqPending := (List.range s.part.irqs.length).filter fun n =>
      if n ∈ s.irqPending then
        !((s.part.irqs[n]?).any (fun src => src.deviceWithdraws) && Config.irqWithdrawn s.draws n)
      else Config.irqRaised s.draws n
    draws := s.draws + 1 }

-- The watchdog (R417) and reset within a run (R450).

/-- The watchdog is present and its count has reached `WDT_TIMEOUT` (R417). -/
def State.watchdogExpired (s : State) : Bool :=
  match s.part.watchdog with
  | none => false
  | some t => decide (t ≤ s.wdtCount)

/-- Reset within a run (R450): the whole state is replaced by the reset state of the part and its program image; what
the observer has seen stays seen, and the model's draw counter goes on. -/
def State.resetInRun (s : State) : State :=
  { State.resetOf s.part s.prog with ioLog := s.ioLog, draws := s.draws + 1 }

end Sys2Proof.Machine
end

