-- ==== Sys2Proof/Machine/Operands.lean ====
section
/-! DEFINITION. Operand forms shared by the instructions: the addressing modes of LD and ST, the program-memory byte
addresses, relative and absolute targets, the skip, register results with flags (44_transfer.md R293, R314 to R319;
43_control.md R258 to R260). -/

namespace Sys2Proof.Machine

/-- The address `(pair + zext_16(q)) mod 2^16` of LDD and STD (R293 (c)). -/
def State.displaced (s : State) (p : Reg) (q : BitVec 6) : Word := s.pair p + q.setWidth 16

/-- Whether register d is one of the two bytes of the pair p (R293 (e)). -/
def inPair (p d : Reg) : Bool := decide (d = p ∨ d = p + 1)

/-- A pointer-updating form is refused when its data register d is in the pointer p (R293 (e)). -/
def unlessInPointer (p d : Reg) (i : Instr) (s : State) (k : Host.Outcome State Fault Refusal) :
    Host.Outcome State Fault Refusal :=
  if inPair p d then .fault (.undefinedOperandCombination s.pc (firstWord i)) else k

/-- Load from a data-space address: `x[d] <- MemRead(a, 1)`, then n words on. -/
def State.load (s : State) (d : Reg) (a : Word) (n : PcWord) : Except Fault State :=
  (s.memRead a).bind fun v => .ok ((v.2.setReg d v.1).advance n)

/-- Load with post-increment of the pair p: the old pointer addresses (R293 (b), (d)). -/
def State.loadInc (s : State) (d p : Reg) : Except Fault State :=
  (s.memRead (s.pair p)).bind fun v => .ok (((v.2.setReg d v.1).setPair p (s.pair p + 1)).advance 1)

/-- Load with pre-decrement of the pair p: the new pointer is written, then addresses (R293 (b), (d)). -/
def State.loadDec (s : State) (d p : Reg) : Except Fault State :=
  ((s.setPair p (s.pair p - 1)).memRead (s.pair p - 1)).bind fun v => .ok ((v.2.setReg d v.1).advance 1)

/-- Store a register at a data-space address: `MemWrite(a, 1, x[r])`, then n words on. -/
def State.store (s : State) (a : Word) (r : Reg) (n : PcWord) : Except Fault State :=
  (s.memWrite a (s.reg r)).bind fun s1 => .ok (s1.advance n)

/-- Store with post-increment of the pair p. -/
def State.storeInc (s : State) (p r : Reg) : Except Fault State :=
  (s.memWrite (s.pair p) (s.reg r)).bind fun s1 => .ok ((s1.setPair p (s.pair p + 1)).advance 1)

/-- Store with pre-decrement of the pair p. -/
def State.storeDec (s : State) (p r : Reg) : Except Fault State :=
  let s1 := s.setPair p (s.pair p - 1)
  (s1.memWrite (s.pair p - 1) (s1.reg r)).bind fun s2 => .ok (s2.advance 1)

/-- The program byte address of LPM: Z alone (R314). -/
def State.lpmAddr (s : State) : Nat := s.z.toNat

/-- The 24-bit program byte address `RAMPZ : Z` (R30, R317). -/
def State.extAddr (s : State) : BitVec 24 := s.rampz ++ s.z

/-- The program byte address of ELPM: `RAMPZ : Z`, the bits beyond 2 * 2^`PC_BITS` bytes ignored (R317, D28). -/
def State.elpmAddr (s : State) : Nat :=
  match s.part.pcWidth with
  | .bits22 => s.extAddr.toNat % 2 ^ 23
  | .bits16 => s.extAddr.toNat % 2 ^ 17

/-- Load register d from the program memory. -/
def State.loadProg (s : State) (d : Reg) (b : Nat) : Except Fault State :=
  (s.progByte b).bind fun v => .ok ((s.setReg d v).advance 1)

/-- A PC-relative target `pc + sext(k) + 1` of a 7-bit offset (R106, R240). -/
def State.target7 (s : State) (k : BitVec 7) : PcWord := s.pc + k.signExtend 22 + 1

/-- A PC-relative target `pc + sext(k) + 1` of a 12-bit offset (R106, R243). -/
def State.target12 (s : State) (k : BitVec 12) : PcWord := s.pc + k.signExtend 22 + 1

/-- The target `EIND : Z` (R246). -/
def State.extTarget (s : State) : PcWord := s.eind.extractLsb' 0 6 ++ s.z

/-- Branch to pc + k + 1 if cond, else go on (R240, R241). -/
def State.branch (s : State) (cond : Bool) (k : BitVec 7) : State := if cond then s.jump (s.target7 k) else s.advance 1

/-- A call: push the return address n words on, then jump to the target, which is computed before (R259). -/
def State.call (s : State) (n target : PcWord) : Except Fault State :=
  (s.pushPc (s.pcPlus n)).bind fun s1 => .ok (s1.jump target)

/-- `Skip(cond)` (R258): the skipped instruction's length comes from its first word alone. -/
def State.skip (s : State) (cond : Bool) : Except Fault State :=
  if cond then s.nextWord.bind fun w => .ok (s.advance (1 + BitVec.ofNat 22 (instrLen w)))
  else .ok (s.advance 1)

/-- Write a result and SREG, and go on. -/
def State.result (s : State) (d : Reg) (v sr : Byte) : State := ((s.setReg d v).setSreg sr).advance 1

/-- Write SREG alone, and go on (comparisons). -/
def State.flagsOnly (s : State) (sr : Byte) : State := (s.setSreg sr).advance 1

/-- Write a 16-bit result to the pair p and SREG, and go on. -/
def State.resultPair (s : State) (p : Reg) (v : Word) (sr : Byte) : State := ((s.setPair p v).setSreg sr).advance 1

/-- A byte with bit b replaced. -/
def byteWithBit (x : Byte) (b : BitVec 3) (v : Bool) : Byte :=
  if v then x ||| (1#8 <<< b.toNat) else x &&& ~~~(1#8 <<< b.toNat)

/-- `SleepEnabled(MCUCR)` (R351). -/
def sleepEnabledAt (p : Part) (mcucr : Byte) : Bool := p.sleepEnabled.getLsbD mcucr.toNat

end Sys2Proof.Machine
end

