-- ==== Sys2Proof/Machine/Timing.lean ====
section
/-! DEFINITION. The cycle counts of 70_reset_and_hazards.md R460, which only the watchdog reads (R417). -/

namespace Sys2Proof.Machine

/-- `Skip(cond)` (R258): 1 when nothing is skipped, else 1 more than the words skipped; a skip that faults has none. -/
def State.skipCycles (s : State) (cond : Bool) : Nat :=
  if cond then
    match s.nextWord with
    | .ok w => 1 + instrLen w
    | .error _ => 1
  else 1

/-- A conditional branch: 2 when it branches, else 1. -/
def branchCycles (taken : Bool) : Nat := if taken then 2 else 1

/-- What an SFR bit test sees (R256, R257): the byte its read gives, if the SFR can be read. -/
def State.ioSeen (s : State) (a : Nat) : Byte :=
  match s.ioRead a with
  | .ok v => v.1
  | .error _ => 0#8

/-- A count that is one higher with a 22-bit PC. -/
def State.pcCycles (s : State) (n : Nat) : Nat :=
  match s.part.pcWidth with
  | .bits16 => n
  | .bits22 => n + 1

/-- The cycles of an instruction started in state s (R460); SPM, which has only a time, counts none. -/
def cycles (i : Instr) (s : State) : Nat :=
  match i with
  | .nop => 1
  | .movw _ _ => 1
  | .muls _ _ => 2
  | .mulsu _ _ => 2
  | .fmul _ _ => 2
  | .fmuls _ _ => 2
  | .fmulsu _ _ => 2
  | .cpc _ _ => 1
  | .sbc _ _ => 1
  | .add _ _ => 1
  | .cpse d r => s.skipCycles (decide (s.reg d = s.reg r))
  | .cp _ _ => 1
  | .sub _ _ => 1
  | .adc _ _ => 1
  | .and_ _ _ => 1
  | .eor _ _ => 1
  | .or_ _ _ => 1
  | .mov _ _ => 1
  | .cpi _ _ => 1
  | .sbci _ _ => 1
  | .subi _ _ => 1
  | .ori _ _ => 1
  | .andi _ _ => 1
  | .lddZ _ _ => 2
  | .lddY _ _ => 2
  | .stdZ _ _ => 2
  | .stdY _ _ => 2
  | .lds _ _ => 2
  | .ldZInc _ => 2
  | .ldZDec _ => 2
  | .lpmRd _ => 3
  | .lpmRdInc _ => 3
  | .elpmRd _ => 3
  | .elpmRdInc _ => 3
  | .ldYInc _ => 2
  | .ldYDec _ => 2
  | .ldX _ => 2
  | .ldXInc _ => 2
  | .ldXDec _ => 2
  | .pop _ => 2
  | .sts _ _ => 2
  | .stZInc _ => 2
  | .stZDec _ => 2
  | .stYInc _ => 2
  | .stYDec _ => 2
  | .stX _ => 2
  | .stXInc _ => 2
  | .stXDec _ => 2
  | .push _ => 2
  | .com _ => 1
  | .neg _ => 1
  | .swap _ => 1
  | .inc _ => 1
  | .asr _ => 1
  | .lsr _ => 1
  | .ror _ => 1
  | .bset _ => 1
  | .ijmp => 2
  | .dec _ => 1
  | .jmp _ => 3
  | .call _ => s.pcCycles 4
  | .eijmp => 2
  | .bclr _ => 1
  | .ret => s.pcCycles 4
  | .icall => s.pcCycles 3
  | .reti => s.pcCycles 4
  | .eicall => 4
  | .sleep => 1
  | .break_ => 1
  | .wdr => 1
  | .lpm => 3
  | .elpm => 3
  | .spm => 0
  | .adiw _ _ => 2
  | .sbiw _ _ => 2
  | .cbi _ _ => 2
  | .sbic a b => s.skipCycles (!(s.ioSeen (sfrAddr a.toNat)).getLsbD b.toNat)
  | .sbi _ _ => 2
  | .sbis a b => s.skipCycles ((s.ioSeen (sfrAddr a.toNat)).getLsbD b.toNat)
  | .mul _ _ => 2
  | .in_ _ _ => 1
  | .out _ _ => 1
  | .rjmp _ => 2
  | .rcall _ => s.pcCycles 3
  | .ldi _ _ => 1
  | .brbs b _ => branchCycles (s.sreg.getLsbD b.toNat)
  | .brbc b _ => branchCycles (!s.sreg.getLsbD b.toNat)
  | .bld _ _ => 1
  | .bst _ _ => 1
  | .sbrc r b => s.skipCycles (!(s.reg r).getLsbD b.toNat)
  | .sbrs r b => s.skipCycles ((s.reg r).getLsbD b.toNat)
  | .brcc _ => branchCycles (!flagC s.sreg)
  | .brcs _ => branchCycles (flagC s.sreg)
  | .brsh _ => branchCycles (!flagC s.sreg)
  | .brlo _ => branchCycles (flagC s.sreg)
  | .brne _ => branchCycles (!flagZ s.sreg)
  | .breq _ => branchCycles (flagZ s.sreg)
  | .brpl _ => branchCycles (!flagN s.sreg)
  | .brmi _ => branchCycles (flagN s.sreg)
  | .brvc _ => branchCycles (!flagV s.sreg)
  | .brvs _ => branchCycles (flagV s.sreg)
  | .brge _ => branchCycles (!flagS s.sreg)
  | .brlt _ => branchCycles (flagS s.sreg)
  | .brhc _ => branchCycles (!flagH s.sreg)
  | .brhs _ => branchCycles (flagH s.sreg)
  | .brtc _ => branchCycles (!flagT s.sreg)
  | .brts _ => branchCycles (flagT s.sreg)
  | .brid _ => branchCycles (!flagI s.sreg)
  | .brie _ => branchCycles (flagI s.sreg)
  | .bric _ => branchCycles (flagI s.sreg)
  | .sec => 1
  | .sez => 1
  | .sen => 1
  | .sev => 1
  | .ses => 1
  | .seh => 1
  | .set_ => 1
  | .sei => 1
  | .clc => 1
  | .clz => 1
  | .cln => 1
  | .clv => 1
  | .cls => 1
  | .clh => 1
  | .clt => 1
  | .cli => 1
  | .clr _ => 1
  | .ser _ => 1
  | .tst _ => 1
  | .lsl _ => 1
  | .rol _ => 1
  | .cbr _ _ => 1
  | .sbr _ _ => 1
  | .ldY _ => 2
  | .ldZ _ => 2
  | .stY _ => 2
  | .stZ _ => 2

/-- The cycles `wdt_count` goes on by when an instruction started in state s has completed (R417); the count is of the
cycles since the last WDR, so WDR's own is not in it (R352). -/
def countedCycles (i : Instr) (s : State) : Nat := if i = .wdr then 0 else cycles i s

end Sys2Proof.Machine
end

