-- ==== Sys2Proof/Machine/Boundary.lean ====
section
/-! DEFINITION. One instruction boundary: the fetch, the running of the fetched instruction, the acceptance of an
interrupt, sleep, stop and the watchdog's reset (60_exceptions.md R404, R411, R417, R419; 30_encoding.md R110). -/

namespace Sys2Proof.Machine

/-- Whether a first word has the pattern of JMP or CALL. -/
def isJmpCallWord (w : Word) : Bool := decide (w &&& 0xFE0E#16 = 0x940C#16) || decide (w &&& 0xFE0E#16 = 0x940E#16)

/-- Whether a second word is fetched: the pattern has two words and the part has the instruction (R110, R114). -/
def State.wantsSecondWord (s : State) (w : Word) : Bool :=
  decide (instrLen w = 2) && (!isJmpCallWord w || s.part.hasJmpCall)

/-- The second word of an instruction with first word w; a word of zeros where none is fetched. -/
def State.secondWord (s : State) (w : Word) : Except Fault Word := if s.wantsSecondWord w then s.nextWord else .ok 0#16

/-- THE FETCH (R64, R68, R113): the instruction at pc. -/
def State.fetch (s : State) : Except Fault Instr :=
  s.fetchWord.bind fun w =>
    (s.secondWord w).bind fun w2 =>
      match decodeWords [w, w2] with
      | .ok i => .ok i
      | .error _ => .error (.unassignedOpcode s.pc w)

/-- `wdt_count` goes on by n cycles where the part has a watchdog (R417). -/
def State.charge (s : State) (n : Nat) : State :=
  { s with wdtCount := if s.part.watchdog.isSome then s.wdtCount + n else s.wdtCount }

/-- A set `irq_delay` is true for the instruction that starts, and for no further one (R411). -/
def State.startDelay (s : State) : State := { s with irqDelay := if s.irqDelay = .set then .ending else s.irqDelay }

/-- The instruction completes: the `irq_delay` that lasted for it is cleared (R411), one it has set itself stays. -/
def State.complete (s : State) : State := { s with irqDelay := if s.irqDelay = .ending then .off else s.irqDelay }

/-- Fetch and run the instruction at pc; `ex` is what an instruction does. Its cycles, those of the very state it ran
from, are counted when it has completed (R417, R460), so what it reads and what is counted are the same. -/
def State.runInstruction (ex : Instr → State → Host.Outcome State Fault Refusal) (s : State) :
    Host.Outcome State Fault Refusal :=
  match s.fetch with
  | .ok i =>
    match ex i s.startDelay with
    | .next t => .next (t.complete.charge (countedCycles i s.startDelay))
    | .fault f => .fault f
    | .refused r => .refused r
  | .error f => .fault f

/-- What happens at a boundary once the devices have acted (R404): the entry of the accepted interrupt; else, awake,
the next instruction; asleep, nothing. -/
def State.proceed (ex : Instr → State → Host.Outcome State Fault Refusal) (s : State) :
    Host.Outcome State Fault Refusal :=
  match s.accepted with
  | some c => orFault (s.enterInterrupt c.1 c.2)
  | none => if s.sleeping then .next s else s.runInstruction ex

/-- The state after an expired watchdog's chance to reset has passed: one free value is spent (R417). -/
def State.watchdogPassed (s : State) : State := if s.watchdogExpired then s.drawn else s

/-- ONE STEP, from an instruction boundary to the next (R404, R417): a stopped core takes none; an expired watchdog may
reset the machine; else the devices' requests arrive and the machine proceeds. -/
def State.boundary (ex : Instr → State → Host.Outcome State Fault Refusal) (s : State) :
    Host.Outcome State Fault Refusal :=
  if s.stopped then .fault .stopped
  else if s.watchdogExpired && Config.watchdogFires s.draws then .next s.resetInRun
  else s.watchdogPassed.receiveRequests.proceed ex

/-- Place an instruction given by the bits of spec/opcode_table.json at pc (Step.lean `withFetchWord`). -/
def State.placeAtPc (s : State) (nbits w : Nat) : State :=
  match tableWords nbits w with
  | [w1, w2] => (s.loadWord s.pc.toNat w1).loadWord (s.pc.toNat + 1) w2
  | _ => s

end Sys2Proof.Machine
end

