-- ==== Sys2Proof/Machine/Arith.lean ====
section
/-! DEFINITION. The arithmetic, comparison and multiply instructions (40_arithmetic.md R143 to R163). One definition per instruction,
over the shared operations of Ops, Operands and Flags. -/

namespace Sys2Proof.Machine

/-- ADD (R143). -/
def execAdd (d r : Reg) (s : State) : Host.Outcome State Fault Refusal :=
  .next (s.result d (add8 (s.reg d) (s.reg r) false) (add8Flags s.sreg (s.reg d) (s.reg r) false))

/-- ADC (R144). -/
def execAdc (d r : Reg) (s : State) : Host.Outcome State Fault Refusal :=
  .next (s.result d (add8 (s.reg d) (s.reg r) (flagC s.sreg)) (add8Flags s.sreg (s.reg d) (s.reg r) (flagC s.sreg)))

/-- ADIW (R145). -/
def execAdiw (d : Reg) (k : BitVec 6) (s : State) : Host.Outcome State Fault Refusal :=
  let r := s.pair d + k.setWidth 16
  .next (s.resultPair d r (addwFlags s.sreg (s.pair d) r))

/-- SUB (R146). -/
def execSub (d r : Reg) (s : State) : Host.Outcome State Fault Refusal :=
  .next (s.result d (sub8 (s.reg d) (s.reg r) false) (sub8Flags s.sreg (s.reg d) (s.reg r) false false))

/-- SUBI (R147). -/
def execSubi (d : Reg) (k : Byte) (s : State) : Host.Outcome State Fault Refusal :=
  .next (s.result d (sub8 (s.reg d) k false) (sub8Flags s.sreg (s.reg d) k false false))

/-- SBC (R148). -/
def execSbc (d r : Reg) (s : State) : Host.Outcome State Fault Refusal :=
  .next (s.result d (sub8 (s.reg d) (s.reg r) (flagC s.sreg)) (sub8Flags s.sreg (s.reg d) (s.reg r) (flagC s.sreg) true))

/-- SBCI (R149). -/
def execSbci (d : Reg) (k : Byte) (s : State) : Host.Outcome State Fault Refusal :=
  .next (s.result d (sub8 (s.reg d) k (flagC s.sreg)) (sub8Flags s.sreg (s.reg d) k (flagC s.sreg) true))

/-- SBIW (R150). -/
def execSbiw (d : Reg) (k : BitVec 6) (s : State) : Host.Outcome State Fault Refusal :=
  let r := s.pair d - k.setWidth 16
  .next (s.resultPair d r (subwFlags s.sreg (s.pair d) r))

/-- INC (R151). -/
def execInc (d : Reg) (s : State) : Host.Outcome State Fault Refusal :=
  .next (s.result d (s.reg d + 1) (stepFlags s.sreg (s.reg d + 1) (decide (s.reg d = 0x7F#8))))

/-- DEC (R152). -/
def execDec (d : Reg) (s : State) : Host.Outcome State Fault Refusal :=
  .next (s.result d (s.reg d - 1) (stepFlags s.sreg (s.reg d - 1) (decide (s.reg d = 0x80#8))))

/-- NEG (R153): $00 - Rd. -/
def execNeg (d : Reg) (s : State) : Host.Outcome State Fault Refusal :=
  .next (s.result d (sub8 0#8 (s.reg d) false) (sub8Flags s.sreg 0#8 (s.reg d) false false))

/-- CP (R154). -/
def execCp (d r : Reg) (s : State) : Host.Outcome State Fault Refusal :=
  .next (s.flagsOnly (sub8Flags s.sreg (s.reg d) (s.reg r) false false))

/-- CPC (R155). -/
def execCpc (d r : Reg) (s : State) : Host.Outcome State Fault Refusal :=
  .next (s.flagsOnly (sub8Flags s.sreg (s.reg d) (s.reg r) (flagC s.sreg) true))

/-- CPI (R156). -/
def execCpi (d : Reg) (k : Byte) (s : State) : Host.Outcome State Fault Refusal :=
  .next (s.flagsOnly (sub8Flags s.sreg (s.reg d) k false false))

/-- MUL (R158). -/
def execMul (d r : Reg) (s : State) : Host.Outcome State Fault Refusal :=
  let p := mulUU (s.reg d) (s.reg r)
  ifPresent s.part.hasMul (.mul d r) s (.next (s.resultPair 0#5 p (mulFlags s.sreg p (p.getLsbD 15))))

/-- MULS (R159). -/
def execMuls (d r : Reg) (s : State) : Host.Outcome State Fault Refusal :=
  let p := mulSS (s.reg d) (s.reg r)
  ifPresent s.part.hasMul (.muls d r) s (.next (s.resultPair 0#5 p (mulFlags s.sreg p (p.getLsbD 15))))

/-- MULSU (R160). -/
def execMulsu (d r : Reg) (s : State) : Host.Outcome State Fault Refusal :=
  let p := mulSU (s.reg d) (s.reg r)
  ifPresent s.part.hasMul (.mulsu d r) s (.next (s.resultPair 0#5 p (mulFlags s.sreg p (p.getLsbD 15))))

/-- FMUL (R161). -/
def execFmul (d r : Reg) (s : State) : Host.Outcome State Fault Refusal :=
  let p := mulUU (s.reg d) (s.reg r)
  ifPresent s.part.hasMul (.fmul d r) s
    (.next (s.resultPair 0#5 (p <<< 1) (mulFlags s.sreg (p <<< 1) (p.getLsbD 15))))

/-- FMULS (R162). -/
def execFmuls (d r : Reg) (s : State) : Host.Outcome State Fault Refusal :=
  let p := mulSS (s.reg d) (s.reg r)
  ifPresent s.part.hasMul (.fmuls d r) s
    (.next (s.resultPair 0#5 (p <<< 1) (mulFlags s.sreg (p <<< 1) (p.getLsbD 15))))

/-- FMULSU (R163). -/
def execFmulsu (d r : Reg) (s : State) : Host.Outcome State Fault Refusal :=
  let p := mulSU (s.reg d) (s.reg r)
  ifPresent s.part.hasMul (.fmulsu d r) s
    (.next (s.resultPair 0#5 (p <<< 1) (mulFlags s.sreg (p <<< 1) (p.getLsbD 15))))

end Sys2Proof.Machine
end

