-- ==== Sys2Proof/Machine/Bit.lean ====
section
/-! DEFINITION. The bit instructions of SREG, of registers and of SFRs, and the SREG aliases (42_bit.md R210 to R217). One definition per instruction,
over the shared operations of Ops, Operands and Flags. -/

namespace Sys2Proof.Machine

/-- `SREG[b] <- 1`, and go on (R210); BSET 7 (SEI) also sets `irq_delay` (R411). -/
def State.setFlag (s : State) (b : BitVec 3) : State :=
  { s with sreg := sregWithBit s.sreg b true, irqDelay := if b = 7#3 then .set else s.irqDelay }.advance 1

/-- `SREG[b] <- 0`, and go on (R211). -/
def State.clearFlag (s : State) (b : BitVec 3) : State := (s.setSreg (sregWithBit s.sreg b false)).advance 1

/-- BSET (R210). -/
def execBset (b : BitVec 3) (s : State) : Host.Outcome State Fault Refusal :=
  .next (s.setFlag b)

/-- BCLR (R211). -/
def execBclr (b : BitVec 3) (s : State) : Host.Outcome State Fault Refusal :=
  .next (s.clearFlag b)

/-- SEC (R212): `bset 0`. -/
def execSec (s : State) : Host.Outcome State Fault Refusal :=
  .next (s.setFlag 0#3)

/-- SEZ (R212): `bset 1`. -/
def execSez (s : State) : Host.Outcome State Fault Refusal :=
  .next (s.setFlag 1#3)

/-- SEN (R212): `bset 2`. -/
def execSen (s : State) : Host.Outcome State Fault Refusal :=
  .next (s.setFlag 2#3)

/-- SEV (R212): `bset 3`. -/
def execSev (s : State) : Host.Outcome State Fault Refusal :=
  .next (s.setFlag 3#3)

/-- SES (R212): `bset 4`. -/
def execSes (s : State) : Host.Outcome State Fault Refusal :=
  .next (s.setFlag 4#3)

/-- SEH (R212): `bset 5`. -/
def execSeh (s : State) : Host.Outcome State Fault Refusal :=
  .next (s.setFlag 5#3)

/-- SET (R212): `bset 6`. -/
def execSet (s : State) : Host.Outcome State Fault Refusal :=
  .next (s.setFlag 6#3)

/-- SEI (R212): `bset 7`. -/
def execSei (s : State) : Host.Outcome State Fault Refusal :=
  .next (s.setFlag 7#3)

/-- CLC (R213): `bclr 0`. -/
def execClc (s : State) : Host.Outcome State Fault Refusal :=
  .next (s.clearFlag 0#3)

/-- CLZ (R213): `bclr 1`. -/
def execClz (s : State) : Host.Outcome State Fault Refusal :=
  .next (s.clearFlag 1#3)

/-- CLN (R213): `bclr 2`. -/
def execCln (s : State) : Host.Outcome State Fault Refusal :=
  .next (s.clearFlag 2#3)

/-- CLV (R213): `bclr 3`. -/
def execClv (s : State) : Host.Outcome State Fault Refusal :=
  .next (s.clearFlag 3#3)

/-- CLS (R213): `bclr 4`. -/
def execCls (s : State) : Host.Outcome State Fault Refusal :=
  .next (s.clearFlag 4#3)

/-- CLH (R213): `bclr 5`. -/
def execClh (s : State) : Host.Outcome State Fault Refusal :=
  .next (s.clearFlag 5#3)

/-- CLT (R213): `bclr 6`. -/
def execClt (s : State) : Host.Outcome State Fault Refusal :=
  .next (s.clearFlag 6#3)

/-- CLI (R213): `bclr 7`. -/
def execCli (s : State) : Host.Outcome State Fault Refusal :=
  .next (s.clearFlag 7#3)

/-- BLD (R214). -/
def execBld (d : Reg) (b : BitVec 3) (s : State) : Host.Outcome State Fault Refusal :=
  .next ((s.setReg d (byteWithBit (s.reg d) b (flagT s.sreg))).advance 1)

/-- BST (R215). -/
def execBst (d : Reg) (b : BitVec 3) (s : State) : Host.Outcome State Fault Refusal :=
  .next (s.flagsOnly (withT s.sreg ((s.reg d).getLsbD b.toNat)))

/-- Read an SFR, write it back with bit b replaced, and go on (R71, R459). -/
def State.modifySfr (s : State) (a : BitVec 5) (b : BitVec 3) (v : Bool) : Except Fault State :=
  (s.ioRead (sfrAddr a.toNat)).bind fun t =>
    (t.2.ioWrite (sfrAddr a.toNat) (byteWithBit t.1 b v)).bind fun s1 => .ok (s1.advance 1)

/-- SBI (R216). -/
def execSbi (a : BitVec 5) (b : BitVec 3) (s : State) : Host.Outcome State Fault Refusal :=
  orFault (s.modifySfr a b true)

/-- CBI (R217). -/
def execCbi (a : BitVec 5) (b : BitVec 3) (s : State) : Host.Outcome State Fault Refusal :=
  orFault (s.modifySfr a b false)

end Sys2Proof.Machine
end

