-- ==== Sys2Proof/Machine/Control.lean ====
section
/-! DEFINITION. Branches, jumps, calls, returns and skips, and the branch aliases (43_control.md R240 to R257). One definition per instruction,
over the shared operations of Ops, Operands and Flags. -/

namespace Sys2Proof.Machine

/-- BRBS (R240). -/
def execBrbs (b : BitVec 3) (k : BitVec 7) (s : State) : Host.Outcome State Fault Refusal :=
  .next (s.branch (s.sreg.getLsbD b.toNat) k)

/-- BRBC (R241). -/
def execBrbc (b : BitVec 3) (k : BitVec 7) (s : State) : Host.Outcome State Fault Refusal :=
  .next (s.branch (!s.sreg.getLsbD b.toNat) k)

/-- BRCC (R242): `brbc 0,k`. -/
def execBrcc (k : BitVec 7) (s : State) : Host.Outcome State Fault Refusal :=
  .next (s.branch (!flagC s.sreg) k)

/-- BRCS (R242): `brbs 0,k`. -/
def execBrcs (k : BitVec 7) (s : State) : Host.Outcome State Fault Refusal :=
  .next (s.branch (flagC s.sreg) k)

/-- BRSH (R242): `brbc 0,k`. -/
def execBrsh (k : BitVec 7) (s : State) : Host.Outcome State Fault Refusal :=
  .next (s.branch (!flagC s.sreg) k)

/-- BRLO (R242): `brbs 0,k`. -/
def execBrlo (k : BitVec 7) (s : State) : Host.Outcome State Fault Refusal :=
  .next (s.branch (flagC s.sreg) k)

/-- BRNE (R242): `brbc 1,k`. -/
def execBrne (k : BitVec 7) (s : State) : Host.Outcome State Fault Refusal :=
  .next (s.branch (!flagZ s.sreg) k)

/-- BREQ (R242): `brbs 1,k`. -/
def execBreq (k : BitVec 7) (s : State) : Host.Outcome State Fault Refusal :=
  .next (s.branch (flagZ s.sreg) k)

/-- BRPL (R242): `brbc 2,k`. -/
def execBrpl (k : BitVec 7) (s : State) : Host.Outcome State Fault Refusal :=
  .next (s.branch (!flagN s.sreg) k)

/-- BRMI (R242): `brbs 2,k`. -/
def execBrmi (k : BitVec 7) (s : State) : Host.Outcome State Fault Refusal :=
  .next (s.branch (flagN s.sreg) k)

/-- BRVC (R242): `brbc 3,k`. -/
def execBrvc (k : BitVec 7) (s : State) : Host.Outcome State Fault Refusal :=
  .next (s.branch (!flagV s.sreg) k)

/-- BRVS (R242): `brbs 3,k`. -/
def execBrvs (k : BitVec 7) (s : State) : Host.Outcome State Fault Refusal :=
  .next (s.branch (flagV s.sreg) k)

/-- BRGE (R242): `brbc 4,k`. -/
def execBrge (k : BitVec 7) (s : State) : Host.Outcome State Fault Refusal :=
  .next (s.branch (!flagS s.sreg) k)

/-- BRLT (R242): `brbs 4,k`. -/
def execBrlt (k : BitVec 7) (s : State) : Host.Outcome State Fault Refusal :=
  .next (s.branch (flagS s.sreg) k)

/-- BRHC (R242): `brbc 5,k`. -/
def execBrhc (k : BitVec 7) (s : State) : Host.Outcome State Fault Refusal :=
  .next (s.branch (!flagH s.sreg) k)

/-- BRHS (R242): `brbs 5,k`. -/
def execBrhs (k : BitVec 7) (s : State) : Host.Outcome State Fault Refusal :=
  .next (s.branch (flagH s.sreg) k)

/-- BRTC (R242): `brbc 6,k`. -/
def execBrtc (k : BitVec 7) (s : State) : Host.Outcome State Fault Refusal :=
  .next (s.branch (!flagT s.sreg) k)

/-- BRTS (R242): `brbs 6,k`. -/
def execBrts (k : BitVec 7) (s : State) : Host.Outcome State Fault Refusal :=
  .next (s.branch (flagT s.sreg) k)

/-- BRID (R242): `brbc 7,k`. -/
def execBrid (k : BitVec 7) (s : State) : Host.Outcome State Fault Refusal :=
  .next (s.branch (!flagI s.sreg) k)

/-- BRIE (R242): `brbs 7,k`. -/
def execBrie (k : BitVec 7) (s : State) : Host.Outcome State Fault Refusal :=
  .next (s.branch (flagI s.sreg) k)

/-- BRIC (R242): `brbs 7,k`. -/
def execBric (k : BitVec 7) (s : State) : Host.Outcome State Fault Refusal :=
  .next (s.branch (flagI s.sreg) k)

/-- RJMP (R243). -/
def execRjmp (k : BitVec 12) (s : State) : Host.Outcome State Fault Refusal :=
  .next (s.jump (s.target12 k))

/-- JMP (R244). -/
def execJmp (k : BitVec 22) (s : State) : Host.Outcome State Fault Refusal :=
  ifPresent s.part.hasJmpCall (.jmp k) s (.next (s.jump k))

/-- IJMP (R245). -/
def execIjmp (s : State) : Host.Outcome State Fault Refusal :=
  ifPresent s.part.hasIjmpIcall .ijmp s (.next (s.jump (s.z.setWidth 22)))

/-- EIJMP (R246). -/
def execEijmp (s : State) : Host.Outcome State Fault Refusal :=
  ifPresent s.part.hasExt .eijmp s (.next (s.jump s.extTarget))

/-- RCALL (R247). -/
def execRcall (k : BitVec 12) (s : State) : Host.Outcome State Fault Refusal :=
  orFault (s.call 1 (s.target12 k))

/-- CALL (R248). -/
def execCall (k : BitVec 22) (s : State) : Host.Outcome State Fault Refusal :=
  ifPresent s.part.hasJmpCall (.call k) s (orFault (s.call 2 k))

/-- ICALL (R249). -/
def execIcall (s : State) : Host.Outcome State Fault Refusal :=
  ifPresent s.part.hasIjmpIcall .icall s (orFault (s.call 1 (s.z.setWidth 22)))

/-- EICALL (R250). -/
def execEicall (s : State) : Host.Outcome State Fault Refusal :=
  ifPresent s.part.hasExt .eicall s (orFault (s.call 1 s.extTarget))

/-- RET (R251). -/
def execRet (s : State) : Host.Outcome State Fault Refusal :=
  orFault (s.popPc.bind fun p => .ok (p.2.jump p.1))

/-- RETI (R252). -/
def execReti (s : State) : Host.Outcome State Fault Refusal :=
  orFault s.leaveInterrupt

/-- CPSE (R253). -/
def execCpse (d r : Reg) (s : State) : Host.Outcome State Fault Refusal :=
  orFault (s.skip (decide (s.reg d = s.reg r)))

/-- SBRC (R254). -/
def execSbrc (r : Reg) (b : BitVec 3) (s : State) : Host.Outcome State Fault Refusal :=
  orFault (s.skip (!(s.reg r).getLsbD b.toNat))

/-- SBRS (R255). -/
def execSbrs (r : Reg) (b : BitVec 3) (s : State) : Host.Outcome State Fault Refusal :=
  orFault (s.skip ((s.reg r).getLsbD b.toNat))

/-- SBIC (R256). -/
def execSbic (a : BitVec 5) (b : BitVec 3) (s : State) : Host.Outcome State Fault Refusal :=
  orFault ((s.ioRead (sfrAddr a.toNat)).bind fun t => t.2.skip (!t.1.getLsbD b.toNat))

/-- SBIS (R257). -/
def execSbis (a : BitVec 5) (b : BitVec 3) (s : State) : Host.Outcome State Fault Refusal :=
  orFault ((s.ioRead (sfrAddr a.toNat)).bind fun t => t.2.skip (t.1.getLsbD b.toNat))

end Sys2Proof.Machine
end

