-- ==== Sys2Proof/Machine/Logic.lean ====
section
/-! DEFINITION. The logic, shift and rotate instructions and their aliases (41_logic_shift.md R182 to R198). One definition per instruction,
over the shared operations of Ops, Operands and Flags. -/

namespace Sys2Proof.Machine

/-- AND (R182). -/
def execAnd (d r : Reg) (s : State) : Host.Outcome State Fault Refusal :=
  .next (s.result d (s.reg d &&& s.reg r) (logicFlags s.sreg (s.reg d &&& s.reg r)))

/-- OR (R184). -/
def execOr (d r : Reg) (s : State) : Host.Outcome State Fault Refusal :=
  .next (s.result d (s.reg d ||| s.reg r) (logicFlags s.sreg (s.reg d ||| s.reg r)))

/-- EOR (R186). -/
def execEor (d r : Reg) (s : State) : Host.Outcome State Fault Refusal :=
  .next (s.result d (s.reg d ^^^ s.reg r) (logicFlags s.sreg (s.reg d ^^^ s.reg r)))

/-- ANDI (R183). -/
def execAndi (d : Reg) (k : Byte) (s : State) : Host.Outcome State Fault Refusal :=
  .next (s.result d (s.reg d &&& k) (logicFlags s.sreg (s.reg d &&& k)))

/-- ORI (R185). -/
def execOri (d : Reg) (k : Byte) (s : State) : Host.Outcome State Fault Refusal :=
  .next (s.result d (s.reg d ||| k) (logicFlags s.sreg (s.reg d ||| k)))

/-- COM (R187). -/
def execCom (d : Reg) (s : State) : Host.Outcome State Fault Refusal :=
  .next (s.result d (0xFF#8 - s.reg d) (comFlags s.sreg (0xFF#8 - s.reg d)))

/-- ASR (R188). -/
def execAsr (d : Reg) (s : State) : Host.Outcome State Fault Refusal :=
  let r := (s.reg d).extractLsb' 7 1 ++ (s.reg d).extractLsb' 1 7
  .next (s.result d r (shrFlags s.sreg r ((s.reg d).getLsbD 0)))

/-- LSR (R189). -/
def execLsr (d : Reg) (s : State) : Host.Outcome State Fault Refusal :=
  let r := 0#1 ++ (s.reg d).extractLsb' 1 7
  .next (s.result d r (shrFlags s.sreg r ((s.reg d).getLsbD 0)))

/-- ROR (R190). -/
def execRor (d : Reg) (s : State) : Host.Outcome State Fault Refusal :=
  let r := BitVec.ofBool (flagC s.sreg) ++ (s.reg d).extractLsb' 1 7
  .next (s.result d r (shrFlags s.sreg r ((s.reg d).getLsbD 0)))

/-- SWAP (R191). -/
def execSwap (d : Reg) (s : State) : Host.Outcome State Fault Refusal :=
  .next ((s.setReg d ((s.reg d).extractLsb' 0 4 ++ (s.reg d).extractLsb' 4 4)).advance 1)

/-- LSL (R192): `add Rd,Rd`. -/
def execLsl (d : Reg) (s : State) : Host.Outcome State Fault Refusal :=
  .next (s.result d (add8 (s.reg d) (s.reg d) false) (add8Flags s.sreg (s.reg d) (s.reg d) false))

/-- ROL (R193): `adc Rd,Rd`. -/
def execRol (d : Reg) (s : State) : Host.Outcome State Fault Refusal :=
  .next (s.result d (add8 (s.reg d) (s.reg d) (flagC s.sreg)) (add8Flags s.sreg (s.reg d) (s.reg d) (flagC s.sreg)))

/-- TST (R194): `and Rd,Rd`. -/
def execTst (d : Reg) (s : State) : Host.Outcome State Fault Refusal :=
  .next (s.result d (s.reg d &&& s.reg d) (logicFlags s.sreg (s.reg d &&& s.reg d)))

/-- CLR (R195): `eor Rd,Rd`. -/
def execClr (d : Reg) (s : State) : Host.Outcome State Fault Refusal :=
  .next (s.result d (s.reg d ^^^ s.reg d) (logicFlags s.sreg (s.reg d ^^^ s.reg d)))

/-- SER (R196): `ldi Rd,$FF`. -/
def execSer (d : Reg) (s : State) : Host.Outcome State Fault Refusal :=
  .next ((s.setReg d 0xFF#8).advance 1)

/-- CBR (R197): `andi Rd,($FF - K)`. -/
def execCbr (d : Reg) (k : Byte) (s : State) : Host.Outcome State Fault Refusal :=
  .next (s.result d (s.reg d &&& ~~~k) (logicFlags s.sreg (s.reg d &&& ~~~k)))

/-- SBR (R198): `ori Rd,K`. -/
def execSbr (d : Reg) (k : Byte) (s : State) : Host.Outcome State Fault Refusal :=
  .next (s.result d (s.reg d ||| k) (logicFlags s.sreg (s.reg d ||| k)))

end Sys2Proof.Machine
end

