-- ==== Sys2Proof/Machine/System.lean ====
section
/-! DEFINITION. NOP, SLEEP, WDR, BREAK (45_system.md R350 to R353). One definition per instruction,
over the shared operations of Ops, Operands and Flags. -/

namespace Sys2Proof.Machine

/-- NOP (R350). -/
def execNop (s : State) : Host.Outcome State Fault Refusal :=
  .next (s.advance 1)

/-- SLEEP (R351). -/
def execSleep (s : State) : Host.Outcome State Fault Refusal :=
  .next { s.advance 1 with sleeping := s.sleeping || sleepEnabledAt s.part s.mcucr }

/-- WDR (R352). -/
def execWdr (s : State) : Host.Outcome State Fault Refusal :=
  .next { s.advance 1 with wdtCount := if s.part.watchdog.isSome then 0 else s.wdtCount }

/-- BREAK (R353). -/
def execBreak (s : State) : Host.Outcome State Fault Refusal :=
  .next (if s.part.hasOcd then { s with stopped := true } else s.advance 1)

end Sys2Proof.Machine
end

