-- ==== Sys2Proof/Machine/Transfer.lean ====
section
/-! DEFINITION. Moves, loads, stores, program-memory loads, stack and I/O transfers (44_transfer.md R290 to R324). One definition per instruction,
over the shared operations of Ops, Operands and Flags. -/

namespace Sys2Proof.Machine

/-- MOV (R290). -/
def execMov (d r : Reg) (s : State) : Host.Outcome State Fault Refusal :=
  .next ((s.setReg d (s.reg r)).advance 1)

/-- MOVW (R291). -/
def execMovw (d r : Reg) (s : State) : Host.Outcome State Fault Refusal :=
  ifPresent s.part.hasMovw (.movw d r) s (.next ((s.setPair d (s.pair r)).advance 1))

/-- LDI (R292). -/
def execLdi (d : Reg) (k : Byte) (s : State) : Host.Outcome State Fault Refusal :=
  .next ((s.setReg d k).advance 1)

/-- LD X (R294). -/
def execLdX (d : Reg) (s : State) : Host.Outcome State Fault Refusal :=
  orFault (s.load d (s.pair regX) 1)

/-- LD X+ (R295). -/
def execLdXInc (d : Reg) (s : State) : Host.Outcome State Fault Refusal :=
  unlessInPointer regX d (.ldXInc d) s (orFault (s.loadInc d regX))

/-- LD -X (R296). -/
def execLdXDec (d : Reg) (s : State) : Host.Outcome State Fault Refusal :=
  unlessInPointer regX d (.ldXDec d) s (orFault (s.loadDec d regX))

/-- LD Y+ (R297). -/
def execLdYInc (d : Reg) (s : State) : Host.Outcome State Fault Refusal :=
  unlessInPointer regY d (.ldYInc d) s (orFault (s.loadInc d regY))

/-- LD -Y (R298). -/
def execLdYDec (d : Reg) (s : State) : Host.Outcome State Fault Refusal :=
  unlessInPointer regY d (.ldYDec d) s (orFault (s.loadDec d regY))

/-- LD Z+ (R299). -/
def execLdZInc (d : Reg) (s : State) : Host.Outcome State Fault Refusal :=
  unlessInPointer regZ d (.ldZInc d) s (orFault (s.loadInc d regZ))

/-- LD -Z (R300). -/
def execLdZDec (d : Reg) (s : State) : Host.Outcome State Fault Refusal :=
  unlessInPointer regZ d (.ldZDec d) s (orFault (s.loadDec d regZ))

/-- LDD Y+q (R301). -/
def execLddY (d : Reg) (q : BitVec 6) (s : State) : Host.Outcome State Fault Refusal :=
  orFault (s.load d (s.displaced regY q) 1)

/-- LD Y (R301): `ldd Rd,Y+0`. -/
def execLdY (d : Reg) (s : State) : Host.Outcome State Fault Refusal :=
  orFault (s.load d (s.pair regY) 1)

/-- LDD Z+q (R302). -/
def execLddZ (d : Reg) (q : BitVec 6) (s : State) : Host.Outcome State Fault Refusal :=
  orFault (s.load d (s.displaced regZ q) 1)

/-- LD Z (R302): `ldd Rd,Z+0`. -/
def execLdZ (d : Reg) (s : State) : Host.Outcome State Fault Refusal :=
  orFault (s.load d (s.pair regZ) 1)

/-- LDS (R303). -/
def execLds (d : Reg) (k : Word) (s : State) : Host.Outcome State Fault Refusal :=
  orFault (s.load d k 2)

/-- ST X (R304). -/
def execStX (r : Reg) (s : State) : Host.Outcome State Fault Refusal :=
  orFault (s.store (s.pair regX) r 1)

/-- ST X+ (R305). -/
def execStXInc (r : Reg) (s : State) : Host.Outcome State Fault Refusal :=
  unlessInPointer regX r (.stXInc r) s (orFault (s.storeInc regX r))

/-- ST -X (R306). -/
def execStXDec (r : Reg) (s : State) : Host.Outcome State Fault Refusal :=
  unlessInPointer regX r (.stXDec r) s (orFault (s.storeDec regX r))

/-- ST Y+ (R307). -/
def execStYInc (r : Reg) (s : State) : Host.Outcome State Fault Refusal :=
  unlessInPointer regY r (.stYInc r) s (orFault (s.storeInc regY r))

/-- ST -Y (R308). -/
def execStYDec (r : Reg) (s : State) : Host.Outcome State Fault Refusal :=
  unlessInPointer regY r (.stYDec r) s (orFault (s.storeDec regY r))

/-- ST Z+ (R309). -/
def execStZInc (r : Reg) (s : State) : Host.Outcome State Fault Refusal :=
  unlessInPointer regZ r (.stZInc r) s (orFault (s.storeInc regZ r))

/-- ST -Z (R310). -/
def execStZDec (r : Reg) (s : State) : Host.Outcome State Fault Refusal :=
  unlessInPointer regZ r (.stZDec r) s (orFault (s.storeDec regZ r))

/-- STD Y+q (R311). -/
def execStdY (q : BitVec 6) (r : Reg) (s : State) : Host.Outcome State Fault Refusal :=
  orFault (s.store (s.displaced regY q) r 1)

/-- ST Y (R311): `std Y+0,Rr`. -/
def execStY (r : Reg) (s : State) : Host.Outcome State Fault Refusal :=
  orFault (s.store (s.pair regY) r 1)

/-- STD Z+q (R312). -/
def execStdZ (q : BitVec 6) (r : Reg) (s : State) : Host.Outcome State Fault Refusal :=
  orFault (s.store (s.displaced regZ q) r 1)

/-- ST Z (R312): `std Z+0,Rr`. -/
def execStZ (r : Reg) (s : State) : Host.Outcome State Fault Refusal :=
  orFault (s.store (s.pair regZ) r 1)

/-- STS (R313). -/
def execSts (k : Word) (r : Reg) (s : State) : Host.Outcome State Fault Refusal :=
  orFault (s.store k r 2)

/-- LPM (R314). -/
def execLpm (s : State) : Host.Outcome State Fault Refusal :=
  orFault (s.loadProg 0#5 s.lpmAddr)

/-- LPM Rd Z (R315). -/
def execLpmRd (d : Reg) (s : State) : Host.Outcome State Fault Refusal :=
  ifPresent s.part.hasLpmRd (.lpmRd d) s (orFault (s.loadProg d s.lpmAddr))

/-- LPM Rd Z+ (R316). -/
def execLpmRdInc (d : Reg) (s : State) : Host.Outcome State Fault Refusal :=
  ifPresent s.part.hasLpmRd (.lpmRdInc d) s
    (unlessInPointer regZ d (.lpmRdInc d) s
      (orFault ((s.progByte s.lpmAddr).bind fun v => .ok (((s.setReg d v).setPair regZ (s.z + 1)).advance 1))))

/-- ELPM (R317). -/
def execElpm (s : State) : Host.Outcome State Fault Refusal :=
  ifPresent s.part.hasExt .elpm s (orFault (s.loadProg 0#5 s.elpmAddr))

/-- ELPM Rd Z (R318). -/
def execElpmRd (d : Reg) (s : State) : Host.Outcome State Fault Refusal :=
  ifPresent s.part.hasExt (.elpmRd d) s (orFault (s.loadProg d s.elpmAddr))

/-- ELPM Rd Z+ (R319): RAMPZ:Z counts on as 24 bits. -/
def execElpmRdInc (d : Reg) (s : State) : Host.Outcome State Fault Refusal :=
  let a := s.extAddr + 1
  ifPresent s.part.hasExt (.elpmRdInc d) s
    (unlessInPointer regZ d (.elpmRdInc d) s
      (orFault ((s.progByte s.elpmAddr).bind fun v =>
        .ok (({ s.setReg d v with rampz := a.extractLsb' 16 8 }.setPair regZ (a.extractLsb' 0 16)).advance 1))))

/-- SPM (R320): refused by the spec, its effect not being given. -/
def execSpm (s : State) : Host.Outcome State Fault Refusal :=
  ifPresent s.part.hasSpm .spm s (.fault (.spmNotModelled s.pc))

/-- PUSH (R321). -/
def execPush (r : Reg) (s : State) : Host.Outcome State Fault Refusal :=
  ifPresent s.part.hasStackOps (.push r) s (orFault ((s.push8 (s.reg r)).bind fun s1 => .ok (s1.advance 1)))

/-- POP (R322). -/
def execPop (d : Reg) (s : State) : Host.Outcome State Fault Refusal :=
  ifPresent s.part.hasStackOps (.pop d) s (orFault (s.pop8.bind fun v => .ok ((v.2.setReg d v.1).advance 1)))

/-- IN (R323). -/
def execIn (d : Reg) (a : BitVec 6) (s : State) : Host.Outcome State Fault Refusal :=
  orFault ((s.ioRead (sfrAddr a.toNat)).bind fun v => .ok ((v.2.setReg d v.1).advance 1))

/-- OUT (R324). -/
def execOut (a : BitVec 6) (r : Reg) (s : State) : Host.Outcome State Fault Refusal :=
  orFault ((s.ioWrite (sfrAddr a.toNat) (s.reg r)).bind fun s1 => .ok (s1.advance 1))

end Sys2Proof.Machine
end

