-- ==== Sys2Proof/Machine/Dispatch.lean ====
section
/-! DEFINITION. One arm per constructor of Instr. -/

namespace Sys2Proof.Machine

-- What one instruction does.
def exec (i : Instr) (s : State) : Host.Outcome State Fault Refusal :=
  match i with
  | .nop => Sys2Proof.Machine.execNop s
  | .movw d r => Sys2Proof.Machine.execMovw d r s
  | .muls d r => Sys2Proof.Machine.execMuls d r s
  | .mulsu d r => Sys2Proof.Machine.execMulsu d r s
  | .fmul d r => Sys2Proof.Machine.execFmul d r s
  | .fmuls d r => Sys2Proof.Machine.execFmuls d r s
  | .fmulsu d r => Sys2Proof.Machine.execFmulsu d r s
  | .cpc d r => Sys2Proof.Machine.execCpc d r s
  | .sbc d r => Sys2Proof.Machine.execSbc d r s
  | .add d r => Sys2Proof.Machine.execAdd d r s
  | .cpse d r => Sys2Proof.Machine.execCpse d r s
  | .cp d r => Sys2Proof.Machine.execCp d r s
  | .sub d r => Sys2Proof.Machine.execSub d r s
  | .adc d r => Sys2Proof.Machine.execAdc d r s
  | .and_ d r => Sys2Proof.Machine.execAnd d r s
  | .eor d r => Sys2Proof.Machine.execEor d r s
  | .or_ d r => Sys2Proof.Machine.execOr d r s
  | .mov d r => Sys2Proof.Machine.execMov d r s
  | .cpi d k => Sys2Proof.Machine.execCpi d k s
  | .sbci d k => Sys2Proof.Machine.execSbci d k s
  | .subi d k => Sys2Proof.Machine.execSubi d k s
  | .ori d k => Sys2Proof.Machine.execOri d k s
  | .andi d k => Sys2Proof.Machine.execAndi d k s
  | .lddZ d q => Sys2Proof.Machine.execLddZ d q s
  | .lddY d q => Sys2Proof.Machine.execLddY d q s
  | .stdZ q r => Sys2Proof.Machine.execStdZ q r s
  | .stdY q r => Sys2Proof.Machine.execStdY q r s
  | .lds d k => Sys2Proof.Machine.execLds d k s
  | .ldZInc d => Sys2Proof.Machine.execLdZInc d s
  | .ldZDec d => Sys2Proof.Machine.execLdZDec d s
  | .lpmRd d => Sys2Proof.Machine.execLpmRd d s
  | .lpmRdInc d => Sys2Proof.Machine.execLpmRdInc d s
  | .elpmRd d => Sys2Proof.Machine.execElpmRd d s
  | .elpmRdInc d => Sys2Proof.Machine.execElpmRdInc d s
  | .ldYInc d => Sys2Proof.Machine.execLdYInc d s
  | .ldYDec d => Sys2Proof.Machine.execLdYDec d s
  | .ldX d => Sys2Proof.Machine.execLdX d s
  | .ldXInc d => Sys2Proof.Machine.execLdXInc d s
  | .ldXDec d => Sys2Proof.Machine.execLdXDec d s
  | .pop d => Sys2Proof.Machine.execPop d s
  | .sts k r => Sys2Proof.Machine.execSts k r s
  | .stZInc r => Sys2Proof.Machine.execStZInc r s
  | .stZDec r => Sys2Proof.Machine.execStZDec r s
  | .stYInc r => Sys2Proof.Machine.execStYInc r s
  | .stYDec r => Sys2Proof.Machine.execStYDec r s
  | .stX r => Sys2Proof.Machine.execStX r s
  | .stXInc r => Sys2Proof.Machine.execStXInc r s
  | .stXDec r => Sys2Proof.Machine.execStXDec r s
  | .push r => Sys2Proof.Machine.execPush r s
  | .com d => Sys2Proof.Machine.execCom d s
  | .neg d => Sys2Proof.Machine.execNeg d s
  | .swap d => Sys2Proof.Machine.execSwap d s
  | .inc d => Sys2Proof.Machine.execInc d s
  | .asr d => Sys2Proof.Machine.execAsr d s
  | .lsr d => Sys2Proof.Machine.execLsr d s
  | .ror d => Sys2Proof.Machine.execRor d s
  | .bset b => Sys2Proof.Machine.execBset b s
  | .ijmp => Sys2Proof.Machine.execIjmp s
  | .dec d => Sys2Proof.Machine.execDec d s
  | .jmp k => Sys2Proof.Machine.execJmp k s
  | .call k => Sys2Proof.Machine.execCall k s
  | .eijmp => Sys2Proof.Machine.execEijmp s
  | .bclr b => Sys2Proof.Machine.execBclr b s
  | .ret => Sys2Proof.Machine.execRet s
  | .icall => Sys2Proof.Machine.execIcall s
  | .reti => Sys2Proof.Machine.execReti s
  | .eicall => Sys2Proof.Machine.execEicall s
  | .sleep => Sys2Proof.Machine.execSleep s
  | .break_ => Sys2Proof.Machine.execBreak s
  | .wdr => Sys2Proof.Machine.execWdr s
  | .lpm => Sys2Proof.Machine.execLpm s
  | .elpm => Sys2Proof.Machine.execElpm s
  | .spm => Sys2Proof.Machine.execSpm s
  | .adiw d k => Sys2Proof.Machine.execAdiw d k s
  | .sbiw d k => Sys2Proof.Machine.execSbiw d k s
  | .cbi a b => Sys2Proof.Machine.execCbi a b s
  | .sbic a b => Sys2Proof.Machine.execSbic a b s
  | .sbi a b => Sys2Proof.Machine.execSbi a b s
  | .sbis a b => Sys2Proof.Machine.execSbis a b s
  | .mul d r => Sys2Proof.Machine.execMul d r s
  | .in_ d a => Sys2Proof.Machine.execIn d a s
  | .out a r => Sys2Proof.Machine.execOut a r s
  | .rjmp k => Sys2Proof.Machine.execRjmp k s
  | .rcall k => Sys2Proof.Machine.execRcall k s
  | .ldi d k => Sys2Proof.Machine.execLdi d k s
  | .brbs b k => Sys2Proof.Machine.execBrbs b k s
  | .brbc b k => Sys2Proof.Machine.execBrbc b k s
  | .bld d b => Sys2Proof.Machine.execBld d b s
  | .bst d b => Sys2Proof.Machine.execBst d b s
  | .sbrc r b => Sys2Proof.Machine.execSbrc r b s
  | .sbrs r b => Sys2Proof.Machine.execSbrs r b s
  | .brcc k => Sys2Proof.Machine.execBrcc k s
  | .brcs k => Sys2Proof.Machine.execBrcs k s
  | .brsh k => Sys2Proof.Machine.execBrsh k s
  | .brlo k => Sys2Proof.Machine.execBrlo k s
  | .brne k => Sys2Proof.Machine.execBrne k s
  | .breq k => Sys2Proof.Machine.execBreq k s
  | .brpl k => Sys2Proof.Machine.execBrpl k s
  | .brmi k => Sys2Proof.Machine.execBrmi k s
  | .brvc k => Sys2Proof.Machine.execBrvc k s
  | .brvs k => Sys2Proof.Machine.execBrvs k s
  | .brge k => Sys2Proof.Machine.execBrge k s
  | .brlt k => Sys2Proof.Machine.execBrlt k s
  | .brhc k => Sys2Proof.Machine.execBrhc k s
  | .brhs k => Sys2Proof.Machine.execBrhs k s
  | .brtc k => Sys2Proof.Machine.execBrtc k s
  | .brts k => Sys2Proof.Machine.execBrts k s
  | .brid k => Sys2Proof.Machine.execBrid k s
  | .brie k => Sys2Proof.Machine.execBrie k s
  | .bric k => Sys2Proof.Machine.execBric k s
  | .sec => Sys2Proof.Machine.execSec s
  | .sez => Sys2Proof.Machine.execSez s
  | .sen => Sys2Proof.Machine.execSen s
  | .sev => Sys2Proof.Machine.execSev s
  | .ses => Sys2Proof.Machine.execSes s
  | .seh => Sys2Proof.Machine.execSeh s
  | .set_ => Sys2Proof.Machine.execSet s
  | .sei => Sys2Proof.Machine.execSei s
  | .clc => Sys2Proof.Machine.execClc s
  | .clz => Sys2Proof.Machine.execClz s
  | .cln => Sys2Proof.Machine.execCln s
  | .clv => Sys2Proof.Machine.execClv s
  | .cls => Sys2Proof.Machine.execCls s
  | .clh => Sys2Proof.Machine.execClh s
  | .clt => Sys2Proof.Machine.execClt s
  | .cli => Sys2Proof.Machine.execCli s
  | .clr d => Sys2Proof.Machine.execClr d s
  | .ser d => Sys2Proof.Machine.execSer d s
  | .tst d => Sys2Proof.Machine.execTst d s
  | .lsl d => Sys2Proof.Machine.execLsl d s
  | .rol d => Sys2Proof.Machine.execRol d s
  | .cbr d k => Sys2Proof.Machine.execCbr d k s
  | .sbr d k => Sys2Proof.Machine.execSbr d k s
  | .ldY d => Sys2Proof.Machine.execLdY d s
  | .ldZ d => Sys2Proof.Machine.execLdZ d s
  | .stY r => Sys2Proof.Machine.execStY r s
  | .stZ r => Sys2Proof.Machine.execStZ r s

end Sys2Proof.Machine
end

