-- ==== Sys2Proof/Machine/Step.lean ====
section
/-! DEFINITION. The step of the machine, and the placing of an instruction where it fetches next. -/

namespace Sys2Proof.Machine

/-- One step of the machine: one instruction boundary to the next (R404). -/
def step (s : State) : Host.Outcome State Fault Refusal := s.boundary exec

/-- s with an instruction (its bits numbered as spec/opcode_table.json numbers them) stored where step fetches next. -/
def State.withFetchWord (s : State) (nbits w : Nat) : State := s.placeAtPc nbits w

end Sys2Proof.Machine
end

