-- ==== Sys2Proof/Safety.lean ====
section
/-! DEFINITION. What a well-formed part and state are, and what an instruction leaves alone, and what counts
as the normal end of a run and as a safe run (00_scope.md R4; 10_state.md R24, R29, R38, R44; 20_memory.md R62;
70_reset_and_hazards.md R454, R456, R457). -/

namespace Sys2Proof.Machine

/-- The word addresses a program counter can hold: 2^`PC_BITS` (R24). -/
def pcSpan (p : Part) : Nat :=
  match p.pcWidth with
  | .bits16 => 2 ^ 16
  | .bits22 => 2 ^ 22

/-- The values a stack pointer can hold: 2^`SP_BITS` (R29). -/
def spSpan (p : Part) : Nat :=
  match p.spWidth with
  | .bits8 => 2 ^ 8
  | .bits16 => 2 ^ 16

/-- The parameters are ones R4 and R62 admit: 1..2^`PC_BITS` program words, SRAM from $0060 on inside the data space,
SFR reset bytes at SFR addresses in canonical form, a reset SP of `SP_BITS` bits, `SleepEnabled` false after reset
(R44). -/
def partWf (p : Part) : Prop :=
  1 ≤ p.flashWords ∧ p.flashWords ≤ pcSpan p ∧ 0x60 ≤ p.sramStart ∧ p.sramStart ≤ 0x10000 ∧ p.ramEnd < 0x10000 ∧
    Memory.wf (some 0#8) p.sfrReset = true ∧ Memory.within 0x20 p.sramStart p.sfrReset = true ∧
    p.resetSp.toNat < spSpan p ∧ sleepEnabledAt p (mcucrReset p) = false

/-- Every number of a list is greater than `lo`, and the numbers strictly rise. -/
def risesAbove : Nat → List Nat → Bool
  | _, [] => true
  | lo, n :: ns => decide (lo < n) && risesAbove n ns

/-- The numbers of a list strictly rise. -/
def strictlyRising : List Nat → Bool
  | [] => true
  | n :: ns => risesAbove n ns

/-- The invariant as it holds at every moment, also while an instruction runs: pc has `PC_BITS` bits and SP `SP_BITS`
bits (R24, R29); the three memories are in canonical form, the SFRs and SRAM inside their ranges of `DataMap` (R62);
`irq_pending` is a set of sources of `IrqTable` (R38); only a part with `HAS_OCD` is stopped (R353); without a watchdog
nothing is counted (R417). -/
structure State.Sound (s : State) : Prop where
  part : partWf s.part
  pc : s.pc.toNat < pcSpan s.part
  sp : s.sp.toNat < spSpan s.part
  sfrCanonical : Memory.wf (some 0#8) s.sfr = true
  sfrRange : Memory.within 0x20 s.part.sramStart s.sfr = true
  sramCanonical : Memory.wf none s.sram = true
  sramRange : Memory.within s.part.sramStart (s.part.ramEnd + 1) s.sram = true
  progCanonical : Memory.wf none s.prog = true
  pending : strictlyRising s.irqPending = true ∧ ∀ n ∈ s.irqPending, n < s.part.irqs.length
  stop : s.stopped = true → s.part.hasOcd = true
  count : s.part.watchdog = none → s.wdtCount = 0

/-- THE INVARIANT of the machine at an instruction boundary: it is sound, and no `irq_delay` is in the middle of its one
instruction (R38 (e), R411). -/
structure State.Inv (s : State) : Prop extends State.Sound s where
  delay : s.irqDelay ≠ .ending

-- Frames: what an instruction leaves alone, in the terms the claims use.

/-- Every general register outside xs is unchanged. -/
def KeepsRegs (xs : List Reg) (s t : State) : Prop := ∀ k : Reg, k ∉ xs → t.reg k = s.reg k

/-- Every bit of SREG outside bs is unchanged (bit 0 is C, bit 7 is I, R26). -/
def KeepsFlags (bs : List (BitVec 3)) (s t : State) : Prop :=
  ∀ b : BitVec 3, b ∉ bs → t.sreg.getLsbD b.toNat = s.sreg.getLsbD b.toNat

/-- Every byte of SRAM outside the addresses as is unchanged. -/
def KeepsSram (as : List Word) (s t : State) : Prop :=
  ∀ a : Nat, (∀ w ∈ as, a ≠ w.toNat) → t.sramByte a = s.sramByte a

/-- Every SFR byte outside the data-space addresses as is unchanged. -/
def KeepsSfrs (as : List Nat) (s t : State) : Prop := ∀ a : Nat, a ∉ as → t.sfrByte a = s.sfrByte a

/-- Every byte of the program memory is unchanged. -/
def KeepsProgram (s t : State) : Prop := ∀ b : Nat, t.imageByte b = s.imageByte b

/-- No byte of any memory changes. -/
def KeepsMemory (s t : State) : Prop := KeepsSram [] s t ∧ KeepsSfrs [] s t ∧ KeepsProgram s t

/-- The part and the hidden state are unchanged, but for `irq_delay`, the observed accesses and the free draws (R38). -/
def KeepsHidden (s t : State) : Prop :=
  t.part = s.part ∧ t.irqPending = s.irqPending ∧ t.sleeping = s.sleeping ∧ t.stopped = s.stopped ∧
    t.wdtCount = s.wdtCount

/-- No SFR access is seen outside, no free value is drawn and `irq_delay` is unchanged. -/
def KeepsQuiet (s t : State) : Prop := t.ioLog = s.ioLog ∧ t.draws = s.draws ∧ t.irqDelay = s.irqDelay

/-- RAMPZ, EIND and MCUCR are unchanged. -/
def KeepsControl (s t : State) : Prop := t.rampz = s.rampz ∧ t.eind = s.eind ∧ t.mcucr = s.mcucr

/-- Everything but general registers, SREG and pc is unchanged. -/
def KeepsRest (s t : State) : Prop :=
  KeepsMemory s t ∧ KeepsHidden s t ∧ KeepsQuiet s t ∧ KeepsControl s t ∧ t.sp = s.sp

/-- pc is n words further on, modulo 2^`PC_BITS` (R25). -/
def Advances (n : PcWord) (s t : State) : Prop := t.pc = pcMod s.part (s.pc + n)

/-- The byte a data-space address holds where it is plain storage: a register, or an SRAM byte that has been written. -/
def plainByte (s : State) (a : Word) : Option Byte :=
  match dataPlace s.part a with
  | .register d => some (s.reg d)
  | .sram => s.sramByte a.toNat
  | .sfr => none
  | .unimplemented => none

/-- SP after k pushes (R321, R74). -/
def spDown (p : Part) (sp : Word) : Nat → Word
  | 0 => sp
  | k + 1 => spMod p (spDown p sp k - 1)

/-- SP after k pops (R322, R74). -/
def spUp (p : Part) (sp : Word) : Nat → Word
  | 0 => sp
  | k + 1 => spMod p (spUp p sp k + 1)

/-- The next n bytes a push writes are SRAM. -/
def stackRoom (s : State) (n : Nat) : Prop := ∀ k < n, dataPlace s.part (spDown s.part s.sp k) = .sram

/-- The addresses of the next n pushed bytes. -/
def pushSlots (s : State) (n : Nat) : List Word := (List.range n).map (spDown s.part s.sp)

-- Runs.

/-- The state after n steps, if none of them faults. -/
def State.after : Nat → State → Option State
  | 0, s => some s
  | n + 1, s =>
    match step s with
    | .next t => t.after n
    | .fault _ => none
    | .refused _ => none

/-- Something can wake the sleeping core: an interrupt can be accepted once its source requests (R404, R419). -/
def CanWake (s : State) : Prop :=
  flagI s.sreg = true ∧ s.irqDelay = .off ∧ ∃ src ∈ s.part.irqs, s.irqEnabled src = true

/-- A normal end of a run (R454): the boundary after n steps is the first with pc = `END_PC`, and there the core is
neither stopped nor asleep with nothing able to wake it. -/
def EndsAt (s : State) (endPc : PcWord) (n : Nat) (t : State) : Prop :=
  s.after n = some t ∧ t.pc = endPc ∧ t.stopped = false ∧ (t.sleeping = true → CanWake t) ∧
    ∀ m < n, ∀ u, s.after m = some u → u.pc ≠ endPc

/-- A run is safe for n steps: no model fault stops it (R400). -/
def SafeFor (s : State) (n : Nat) : Prop := ∃ t, s.after n = some t

/-- What an observer outside the chip sees of the next n steps of a fault-free run: the SFR reads and writes they add,
in order (R456). -/
def seenAfter (s : State) (n : Nat) : Option (List IoEvent) :=
  (s.after n).map fun t => t.ioLog.drop s.ioLog.length

end Sys2Proof.Machine
end

