-- ==== Sys2Proof/Certificates/Slice0/Obligations.lean ====
section
/-! DEFINITION. The statements about the machine, from the spec's rules, and the words they use for results. -/

namespace Sys2Proof.Machine

/-- A bit of a register or of SREG counts 1 or 0. -/
def bitNat (c : Bool) : Nat := if c then 1 else 0

/-- What an 8-bit addition a + b + c leaves (R140), in the arithmetic reading: the sum modulo 256, H the carry out of
bit 3, C the carry out of bit 7, V the signed overflow. -/
def addOutcome (a b : Byte) (c : Bool) (v : Byte) (t : State) : Prop :=
  v = BitVec.ofNat 8 (a.toNat + b.toNat + bitNat c) ∧
    flagH t.sreg = decide (15 < a.toNat % 16 + b.toNat % 16 + bitNat c) ∧
    flagC t.sreg = decide (255 < a.toNat + b.toNat + bitNat c) ∧
    flagV t.sreg = decide (a.toInt + b.toInt + bitNat c < -128 ∨ 127 < a.toInt + b.toInt + bitNat c) ∧
    flagN t.sreg = v.getLsbD 7 ∧ flagZ t.sreg = decide (v.toNat = 0) ∧ flagS t.sreg = (flagN t.sreg != flagV t.sreg)

/-- What an 8-bit subtraction or comparison a - b - c leaves (R141), in the arithmetic reading: the difference modulo
256, H the borrow into bit 3, C the borrow into bit 7, V the signed overflow; `zBefore` is the condition the old Z puts
on the new one. -/
def subOutcome (a b : Byte) (c zBefore : Bool) (v : Byte) (t : State) : Prop :=
  v = BitVec.ofInt 8 ((a.toNat : Int) - b.toNat - bitNat c) ∧
    flagH t.sreg = decide (a.toNat % 16 < b.toNat % 16 + bitNat c) ∧
    flagC t.sreg = decide (a.toNat < b.toNat + bitNat c) ∧
    flagV t.sreg = decide (a.toInt - b.toInt - bitNat c < -128 ∨ 127 < a.toInt - b.toInt - bitNat c) ∧
    flagN t.sreg = v.getLsbD 7 ∧ flagZ t.sreg = (decide (v.toNat = 0) && zBefore) ∧
    flagS t.sreg = (flagN t.sreg != flagV t.sreg)

/-- N, Z, S and V of a 16-bit result r with signed overflow `ov` (R142). -/
def wordFlags (r : Word) (ov : Prop) [Decidable ov] (t : State) : Prop :=
  flagV t.sreg = decide ov ∧ flagN t.sreg = r.getLsbD 15 ∧ flagZ t.sreg = decide (r.toNat = 0) ∧
    flagS t.sreg = (flagN t.sreg != flagV t.sreg)

/-- What a logic operation with result v leaves (R181). -/
def logicOutcome (d : Reg) (v : Byte) (s t : State) : Prop :=
  t.reg d = v ∧ flagV t.sreg = false ∧ flagN t.sreg = v.getLsbD 7 ∧ flagZ t.sreg = decide (v.toNat = 0) ∧
    flagS t.sreg = v.getLsbD 7 ∧ KeepsFlags [1, 2, 3, 4] s t ∧ KeepsRegs [d] s t ∧
    KeepsRest s t

/-- What a right shift of a to v leaves (R180): C the bit shifted out, N, Z from the result, V = N xor C, S = C. -/
def shiftOutcome (d : Reg) (a v : Byte) (s t : State) : Prop :=
  t.reg d = v ∧ flagC t.sreg = a.getLsbD 0 ∧ flagN t.sreg = v.getLsbD 7 ∧ flagZ t.sreg = decide (v.toNat = 0) ∧
    flagV t.sreg = (v.getLsbD 7 != a.getLsbD 0) ∧ flagS t.sreg = a.getLsbD 0 ∧ KeepsFlags [0, 1, 2, 3, 4] s t ∧
    KeepsRegs [d] s t ∧ KeepsRest s t

/-- What a multiplication with the 16-bit product r written to R1:R0 and the C bit c leaves (R157). -/
def mulOutcome (r : Word) (c : Bool) (s t : State) : Prop :=
  t.reg 1 = highByte r ∧ t.reg 0 = lowByte r ∧ flagC t.sreg = c ∧ flagZ t.sreg = decide (r.toNat = 0) ∧
    KeepsFlags [0, 1] s t ∧ KeepsRegs [0, 1] s t ∧ KeepsRest s t

/-- A move of the byte v to register d: no flag, nothing else (R290, R292). -/
def moveOutcome (d : Reg) (v : Byte) (s t : State) : Prop :=
  t.reg d = v ∧ KeepsRegs [d] s t ∧ KeepsFlags [] s t ∧ KeepsRest s t

/-- SREG has bit b at the value v and nothing else changed, but that setting I sets `irq_delay` (R210, R211, R411). -/
def flagOutcome (b : BitVec 3) (v : Bool) (s t : State) : Prop :=
  t.sreg.getLsbD b.toNat = v ∧ KeepsFlags [b] s t ∧ KeepsRegs [] s t ∧ KeepsMemory s t ∧ KeepsHidden s t ∧
    KeepsControl s t ∧ t.sp = s.sp ∧ t.ioLog = s.ioLog ∧ t.draws = s.draws ∧
    t.irqDelay = (if b = 7 ∧ v = true then .set else s.irqDelay)

/-- The instruction has the one word w, accepts exactly these operands, and takes one cycle. -/
def formOf (i : Instr) (w : Word) (operands : Prop) : Prop :=
  encode i = [w] ∧ (i.wellFormed = true ↔ operands) ∧ ∀ s, cycles i s = 1

/-- Only pc changes. -/
def onlyPc (s t : State) : Prop := KeepsRegs [] s t ∧ KeepsFlags [] s t ∧ KeepsRest s t

/-- A branch: pc + k + 1 where it is taken, else pc + 1 (R240, R241). -/
def branchOutcome (taken : Bool) (k : BitVec 7) (s t : State) : Prop :=
  (t.pc : PcWord) = BitVec.ofInt 22
      (((s.pc.toNat : Int) + (if taken then k.toInt else 0) + 1) % (pcSpan s.part : Int)) ∧ onlyPc s t

/-- The return address a lies on the stack, low byte at the old SP, and SP is lower by `RET_BYTES` (R67, R259). -/
def pushedAddress (a : PcWord) (s t : State) : Prop :=
  t.sramByte (spDown s.part s.sp 0).toNat = some (BitVec.ofNat 8 a.toNat) ∧
    t.sramByte (spDown s.part s.sp 1).toNat = some (BitVec.ofNat 8 (a.toNat / 256)) ∧
    (s.part.pcWidth = .bits22 →
      t.sramByte (spDown s.part s.sp 2).toNat = some (BitVec.ofNat 8 (a.toNat / 65536))) ∧
    t.sp = spDown s.part s.sp (retBytes s.part)

/-- A call of the target with the return address n words on; the stack bytes are the only memory that changes. -/
def callOutcome (n target : PcWord) (s t : State) : Prop :=
  t.pc = pcMod s.part target ∧ pushedAddress (pcMod s.part (s.pc + n)) s t ∧ KeepsRegs [] s t ∧ KeepsFlags [] s t ∧
    KeepsSram (pushSlots s (retBytes s.part)) s t ∧ KeepsSfrs [] s t ∧ KeepsProgram s t ∧ KeepsHidden s t ∧
    KeepsQuiet s t ∧ KeepsControl s t

/-- The bytes the next pops read are those of the return address a, the high byte first (R67). -/
def poppable (a : PcWord) (s : State) : Prop :=
  match s.part.pcWidth with
  | .bits16 =>
    ∃ h l : Byte, plainByte s (spUp s.part s.sp 1) = some h ∧ plainByte s (spUp s.part s.sp 2) = some l ∧
      a.toNat = h.toNat * 256 + l.toNat
  | .bits22 =>
    ∃ e h l : Byte, plainByte s (spUp s.part s.sp 1) = some e ∧ plainByte s (spUp s.part s.sp 2) = some h ∧
      plainByte s (spUp s.part s.sp 3) = some l ∧ a.toNat = e.toNat % 64 * 65536 + h.toNat * 256 + l.toNat

/-- A return to a: pc and SP change, no byte of memory and no register. -/
def returnOutcome (a : PcWord) (s t : State) : Prop :=
  t.pc = a ∧ t.sp = spUp s.part s.sp (retBytes s.part) ∧ KeepsRegs [] s t ∧ KeepsMemory s t ∧ KeepsHidden s t ∧
    KeepsControl s t ∧ t.ioLog = s.ioLog ∧ t.draws = s.draws

/-- A skip whose condition is c, with w the word after it: only pc changes, by 1 or by 1 more than the length of what w
begins (R258). -/
def skipOutcome (c : Bool) (w : Word) (s t : State) : Prop :=
  t.pc = pcMod s.part (s.pc + (if c then 1 + BitVec.ofNat 22 (instrLen w) else 1)) ∧ onlyPc s t

/-- The word a skip needs: when its condition holds, the word after it is in the program image. -/
def skipReady (c : Bool) (w : Word) (s : State) : Prop := c = true → s.progWord (s.pc.toNat + 1) = some w

/-- A load of register d from address a, where a is plain storage in the state u (the pointer already updated, for the
pre-decrement forms), writes the byte found there; ps are the pointer registers it also writes, with the value p. -/
def loadsPlain (i : Instr) (d : Reg) (a : Word) (u : State) (ps : List Reg) (s : State) : Prop :=
  ∀ v, plainByte u a = some v →
    ∃ t, exec i s = .next t ∧ t.reg d = v ∧ (∀ k ∈ ps, k ≠ d → t.reg k = u.reg k) ∧ KeepsRegs (d :: ps) s t ∧
      KeepsFlags [] s t ∧ KeepsRest s t

/-- A store at SRAM address a of the byte v writes that byte and no other; ps are the pointer registers it also writes,
to what they are in u. -/
def storesSram (i : Instr) (v : Byte) (a : Word) (u : State) (ps : List Reg) (s : State) : Prop :=
  dataPlace s.part a = .sram →
    ∃ t, exec i s = .next t ∧ t.sramByte a.toNat = some v ∧ KeepsSram [a] s t ∧ KeepsSfrs [] s t ∧ KeepsProgram s t ∧
      (∀ k ∈ ps, t.reg k = u.reg k) ∧ KeepsRegs ps s t ∧ KeepsFlags [] s t ∧ KeepsHidden s t ∧ KeepsQuiet s t ∧
      KeepsControl s t ∧ t.sp = s.sp

/-- A load from the program memory at byte address b (R66) writes register d; `z` and `rz` are Z and RAMPZ after it. -/
def loadsProgram (i : Instr) (d : Reg) (b : Nat) (z : Word) (rz : Byte) (s : State) : Prop :=
  ∀ w, s.progWord (b / 2) = some w →
    ∃ t, exec i s = .next t ∧ t.reg d = (if b % 2 = 0 then lowByte w else highByte w) ∧
      (d ≠ 30 → t.reg 30 = lowByte z) ∧ (d ≠ 31 → t.reg 31 = highByte z) ∧ t.rampz = rz ∧ KeepsRegs [d, 30, 31] s t ∧
      KeepsFlags [] s t ∧ KeepsMemory s t ∧ KeepsHidden s t ∧ KeepsQuiet s t ∧ t.eind = s.eind ∧ t.mcucr = s.mcucr ∧
      t.sp = s.sp

/-- What reading an SFR that is no architectural register leaves: the read is seen outside, at most one free value is
drawn, and only that SFR's byte may change. -/
def sfrReadFrame (a : Nat) (v : Byte) (s t : State) : Prop :=
  t.ioLog = s.ioLog ++ [.read a v] ∧ KeepsFlags [] s t ∧ KeepsSram [] s t ∧ KeepsSfrs [a] s t ∧ KeepsProgram s t ∧
    KeepsHidden s t ∧ KeepsControl s t ∧ t.sp = s.sp ∧ t.irqDelay = s.irqDelay

/-- A data-space address that stores a byte plainly: a register, SRAM, or an SFR of plain storage (R62, R72, R73). -/
def storePlace (p : Part) (a : Word) : Prop :=
  match dataPlace p a with
  | .register _ => True
  | .sfr => coreSfrAt p a.toNat = none ∧ sfrKindAt p a.toNat = some .storage
  | .sram => True
  | .unimplemented => False

/-- The byte held at a data-space address that stores plainly. -/
def byteAt (s : State) (a : Word) : Option Byte :=
  match dataPlace s.part a with
  | .register d => some (s.reg d)
  | .sfr => some (s.sfrByte a.toNat)
  | .sram => s.sramByte a.toNat
  | .unimplemented => none

/-- The next n bytes a push writes are plain storage, of whatever kind. -/
def stackStores (s : State) (n : Nat) : Prop := ∀ k < n, storePlace s.part (spDown s.part s.sp k)

/-- The bytes a push of the return address a writes, in the order it writes them: the low byte first (R67). -/
def returnBytes (p : Part) (a : PcWord) : List Byte :=
  (List.range (retBytes p)).map fun k => BitVec.ofNat 8 (a.toNat / 256 ^ k)

/-- The writes of pushed bytes that an observer outside sees: those at SFRs (R73, R456). -/
def seenPushes (s : State) (vs : List Byte) : List IoEvent :=
  vs.zipIdx.flatMap fun c =>
    if dataPlace s.part (spDown s.part s.sp c.2) = .sfr then [.write (spDown s.part s.sp c.2).toNat c.1] else []

/-- The bytes vs lie at SP and below, in registers, SFRs or SRAM as it comes (R67, R73), SP is lower by their number,
and nothing else changed but pc. -/
def pushedBytes (vs : List Byte) (s t : State) : Prop :=
  (∀ k v, vs[k]? = some v → byteAt t (spDown s.part s.sp k) = some v) ∧ t.sp = spDown s.part s.sp vs.length ∧
    t.ioLog = s.ioLog ++ seenPushes s vs ∧
    (∀ k : Reg, k.setWidth 16 ∉ pushSlots s vs.length → t.reg k = s.reg k) ∧ KeepsSram (pushSlots s vs.length) s t ∧
    KeepsSfrs ((pushSlots s vs.length).map (·.toNat)) s t ∧ KeepsProgram s t ∧ KeepsFlags [] s t ∧ KeepsHidden s t ∧
    KeepsControl s t ∧ t.irqDelay = s.irqDelay ∧ t.draws = s.draws

/-- A call of the target with the return address n words on, wherever SP points to plain storage (R73, R259). -/
def callAnywhere (n target : PcWord) (s t : State) : Prop :=
  t.pc = pcMod s.part target ∧ pushedBytes (returnBytes s.part (pcMod s.part (s.pc + n))) s t

/-- The value that the last of the effects on a cell gives it, if one names it; w is the byte the program writes. -/
def lastValue (w : Byte) (es : List IoEffect) (s : State) (c : IoCell) : Option Byte :=
  (es.reverse.find? fun e => e.cell == c).map fun e => s.ioValue w e.value

/-- What the effects es of an access leave (R72): a cell one of them names holds the value of the last that does, every
other cell is as before; the two bytes of SP and `irq_delay` are said where no effect reaches them another way. -/
def effectsOutcome (w : Byte) (es : List IoEffect) (s t : State) : Prop :=
  (∀ a : Word, dataPlace s.part a ≠ .unimplemented → a ≠ 0x5D → a ≠ 0x5E →
    t.cellByte (.data a) = (lastValue w es s (.data a)).getD (s.cellByte (.data a))) ∧
  (∀ a : Word, lastValue w es s (.data a) = none → t.sramByte a.toNat = s.sramByte a.toNat) ∧
  (lastValue w es s (.data 0x5D) = none → lastValue w es s (.data 0x5E) = none → t.sp = s.sp) ∧
  (lastValue w es s (.data 0x5F) = none →
    t.irqDelay = (lastValue w es s .irqDelay).elim s.irqDelay (fun v => if v = 0 then .off else .set)) ∧
  t.sleeping = (lastValue w es s .sleeping).elim s.sleeping (fun v => v != 0) ∧
  (∀ n < s.part.irqs.length,
    n ∈ t.irqPending ↔ (lastValue w es s (.request n)).elim (n ∈ s.irqPending) (fun v => v ≠ 0)) ∧
  t.wdtCount = (if s.part.watchdog.isSome then (lastValue w es s .watchdog).elim s.wdtCount BitVec.toNat
    else s.wdtCount) ∧
  t.part = s.part ∧ t.stopped = s.stopped ∧ KeepsProgram s t

/-- t with pc one word after that of s, whatever it was. -/
def onlyOneWord (s t : State) : State := { t with pc := pcMod s.part (s.pc + 1) }

/-- The words no instruction claims, region by region (R113). -/
def unassignedWord (w : Word) : Prop :=
  (w &&& 0xFF00#16 = 0#16 ∧ w ≠ 0#16) ∨
  (w &&& 0xFE00#16 = 0x9000#16 ∧ w.extractLsb' 0 4 ∈ [3#4, 8#4, 11#4]) ∨
  (w &&& 0xFE00#16 = 0x9200#16 ∧ w.extractLsb' 0 4 ∈ [3#4, 4#4, 5#4, 6#4, 7#4, 8#4, 11#4]) ∨
  (w &&& 0xFE0F#16 = 0x9404#16) ∨ (w &&& 0xFE0F#16 = 0x940B#16) ∨
  (w &&& 0xFF0F#16 = 0x9409#16 ∧ w ≠ 0x9409#16 ∧ w ≠ 0x9419#16) ∨
  (w &&& 0xFF0F#16 = 0x9509#16 ∧ w ≠ 0x9509#16 ∧ w ≠ 0x9519#16) ∨
  w ∈ [0x9528#16, 0x9538#16, 0x9548#16, 0x9558#16, 0x9568#16, 0x9578#16, 0x95B8#16, 0x95F8#16] ∨
  (w &&& 0xF808#16 = 0xF808#16)

/-- The words an instruction that transfers no control goes on by; none for the others, and for the skips (R25). -/
def straightWords : Instr → Option PcWord
  | .brbs _ _ | .brbc _ _ | .brcc _ | .brcs _ | .brsh _ | .brlo _ | .brne _ | .breq _ | .brpl _ | .brmi _ | .brvc _
  | .brvs _ | .brge _ | .brlt _ | .brhc _ | .brhs _ | .brtc _ | .brts _ | .brid _ | .brie _ | .bric _ | .rjmp _ | .jmp _
  | .ijmp | .eijmp | .rcall _ | .call _ | .icall | .eicall | .ret | .reti | .cpse _ _ | .sbrc _ _ | .sbrs _ _
  | .sbic _ _ | .sbis _ _ | .break_ => none
  | .lds _ _ | .sts _ _ => some 2
  | _ => some 1

/-- Whether the part lacks an instruction: its optional group is absent (R4, R114). -/
def absentOn (p : Part) : Instr → Bool
  | .mul _ _ | .muls _ _ | .mulsu _ _ | .fmul _ _ | .fmuls _ _ | .fmulsu _ _ => !p.hasMul
  | .movw _ _ => !p.hasMovw
  | .jmp _ | .call _ => !p.hasJmpCall
  | .ijmp | .icall => !p.hasIjmpIcall
  | .eijmp | .eicall | .elpm | .elpmRd _ | .elpmRdInc _ => !p.hasExt
  | .lpmRd _ | .lpmRdInc _ => !p.hasLpmRd
  | .push _ | .pop _ => !p.hasStackOps
  | .spm => !p.hasSpm
  | _ => false

/-- The pointer a load or store updates, with its data register (R293 (e)). -/
def updatedPointer : Instr → Option (Reg × Reg)
  | .ldXInc d | .ldXDec d | .stXInc d | .stXDec d => some (26, d)
  | .ldYInc d | .ldYDec d | .stYInc d | .stYDec d => some (28, d)
  | .ldZInc d | .ldZDec d | .stZInc d | .stZDec d | .lpmRdInc d | .elpmRdInc d => some (30, d)
  | _ => none

/-- The instructions that read the data space, each with the address it first reads: register d, displacement q, data
address k, SFR numbers a and e, bit b (R216, R217, R251 to R257, R293, R322, R323). -/
def readForms (s : State) (d : Reg) (q a : BitVec 6) (k : Word) (e : BitVec 5) (b : BitVec 3) : List (Instr × Word) :=
  [(.lds d k, k), (.ldX d, s.pair 26), (.ldXInc d, s.pair 26), (.ldXDec d, s.pair 26 - 1), (.ldY d, s.pair 28),
    (.ldYInc d, s.pair 28), (.ldYDec d, s.pair 28 - 1), (.lddY d q, s.pair 28 + q.setWidth 16), (.ldZ d, s.pair 30),
    (.ldZInc d, s.pair 30), (.ldZDec d, s.pair 30 - 1), (.lddZ d q, s.pair 30 + q.setWidth 16),
    (.in_ d a, a.setWidth 16 + 0x20), (.sbi e b, e.setWidth 16 + 0x20), (.cbi e b, e.setWidth 16 + 0x20),
    (.sbic e b, e.setWidth 16 + 0x20), (.sbis e b, e.setWidth 16 + 0x20), (.pop d, spMod s.part (s.sp + 1)),
    (.ret, spMod s.part (s.sp + 1)), (.reti, spMod s.part (s.sp + 1))]

/-- The instructions that write the data space without reading it, each with the address it first writes (R247 to R250,
R293, R321, R324). -/
def writeForms (s : State) (r : Reg) (q a : BitVec 6) (k : Word) (m : BitVec 12) (n : BitVec 22) :
    List (Instr × Word) :=
  [(.sts k r, k), (.stX r, s.pair 26), (.stXInc r, s.pair 26), (.stXDec r, s.pair 26 - 1), (.stY r, s.pair 28),
    (.stYInc r, s.pair 28), (.stYDec r, s.pair 28 - 1), (.stdY q r, s.pair 28 + q.setWidth 16), (.stZ r, s.pair 30),
    (.stZInc r, s.pair 30), (.stZDec r, s.pair 30 - 1), (.stdZ q r, s.pair 30 + q.setWidth 16),
    (.out a r, a.setWidth 16 + 0x20), (.push r, s.sp), (.rcall m, s.sp), (.call n, s.sp), (.icall, s.sp),
    (.eicall, s.sp)]

/-- An instruction whose data register is outside the pointer it updates, if it updates one: the others stop for that
reason (R293 (e)). -/
def pointerFree (i : Instr) : Prop := ∀ p r, updatedPointer i = some (p, r) → r ≠ p ∧ r ≠ p + 1

/-- Whether an instruction is a call. -/
def isCall : Instr → Bool
  | .rcall _ | .call _ | .icall | .eicall => true
  | _ => false

/-- The fault of a write at a data-space address, if the machine gives it none (R62, R72). -/
def writeFault (p : Part) (a : Word) : Option Fault :=
  match dataPlace p a with
  | .register _ | .sram => none
  | .sfr => if coreSfrAt p a.toNat = none ∧ sfrKindAt p a.toNat = none then some (.sfrUndescribed a.toNat) else none
  | .unimplemented => some (.dataAddressUnimplemented a)

/-- The fault of a read at a data-space address: that of a write, or of an SRAM byte nothing has written (R45). -/
def readFault (s : State) (a : Word) : Option Fault :=
  if dataPlace s.part a = .sram ∧ s.sramByte a.toNat = none then some (.unwrittenRead a) else writeFault s.part a

end Sys2Proof.Machine

open Sys2Proof Sys2Proof.Machine

-- Encoding and decoding.

/-- R111, R117: what the encoder writes for a well-formed instruction, followed by anything, decodes to that
instruction (an alias: to what it stands for), and the rest is left. Basis: the order of split fields is the spec's
general knowledge GK3, four patterns are those of 90_conflicts.md (log entry 35). -/
def Obligations.EncodedInstructionDecodesToItself : Prop :=
  ∀ (i : Instr) (rest : List Byte), i.wellFormed = true →
    decodeBytes (bytesOfWords (encode i) ++ rest) = .ok (i.expand, rest)

/-- R22, R104, R111: whatever the decoder accepts is a well-formed core instruction, and encoding it gives back the
bytes it was read from. Basis: the order of split fields is the spec's general knowledge GK3 (log entry 35); that
aliases are never decoded is the model's choice (log entry 30). -/
def Obligations.DecodedInstructionEncodesToItsBytes : Prop :=
  ∀ (bs rest : List Byte) (i : Instr), decodeBytes bs = .ok (i, rest) →
    i.wellFormed = true ∧ i.isAlias = false ∧ bs = bytesOfWords (encode i) ++ rest

/-- R111: no word matches two rows of the opcode table. Basis: four patterns are those of 90_conflicts.md (log entry
35). -/
def Obligations.OpcodeRowsDoNotOverlap : Prop :=
  ∀ (w : Word) (r1 r2 : OpcodeRow), r1 ∈ opcodeTable → r2 ∈ opcodeTable → w &&& r1.mask = r1.pattern →
    w &&& r2.mask = r2.pattern → r1.mnemonic = r2.mnemonic

/-- R113: the words of no row are those of the nine regions the rule lists. Basis: the rule marks its list as derived
from R111. -/
def Obligations.UnassignedWordsAreTheListedRegions : Prop := ∀ w : Word, rowOf w = none ↔ unassignedWord w

/-- R110: the length an instruction's first word tells is the number of words of its encoding. Basis: length by
pattern is also the spec's decision D20 (log entry 31). -/
def Obligations.FirstWordTellsTheLength : Prop :=
  ∀ i : Instr, i.wellFormed = true → (encode i).length = instrLen (firstWord i)

/-- R111, R102: words of the spec's examples decode to their instructions. Basis: the order of split fields is the
spec's general knowledge GK3 (log entry 35). -/
def Obligations.SpecExampleWordsDecode : Prop :=
  decodeTableWord 16 0x0F01 = some (.add 16 17) ∧ decodeTableWord 16 0x9631 = some (.adiw 30 1) ∧
    decodeTableWord 16 0x0301 = some (.mulsu 16 17) ∧ decodeTableWord 16 0xAC5F = some (.lddY 5 63) ∧
    decodeTableWord 16 0xF3B9 = some (.brbs 1 (-9)) ∧ decodeTableWord 32 0xBCDE955C = some (.jmp 0x2ABCDE) ∧
    decodeTableWord 32 0x01009300 = some (.sts 0x0100 16) ∧ decodeTableWord 16 0xB70F = some (.in_ 16 0x3F) ∧
    decodeTableWord 16 0x98C7 = some (.cbi 0x18 7) ∧ decodeTableWord 16 0x95E8 = some .spm ∧
    decodeTableWord 16 0xFFFF = none

/-- R117: an alias has the words and the meaning of what it stands for. Basis: ld Rd,Y and st Y,Rr have the words of q
= 0 by conflict C3 (log entry 35). -/
def Obligations.AliasMeansItsExpansion : Prop :=
  ∀ i : Instr, encode i = encode i.expand ∧ ∀ s : State, exec i s = exec i.expand s

-- The step.

/-- R38, R404, R411, R64, R68: awake, with no interrupt accepted and no expired watchdog, a step runs what the words
at pc decode to, from the state in which the devices' requests have arrived; an `irq_delay` set before is true while
the instruction runs, and cleared when it completes unless the instruction has set it anew; where the part has a
watchdog the cycles the instruction has in the state it ran from, WDR's own excepted, are then added to `wdt_count`.
Basis: boundaries, requests, the watchdog's count and irq_delay are the spec's decisions D7, D14, D26 (log entries 14,
16, 18, 19). -/
def Obligations.StepRunsTheDecodedInstruction : Prop :=
  ∀ (s : State) (w w2 : Word) (i : Instr), s.stopped = false → s.watchdogExpired = false →
    s.receiveRequests.accepted = none → s.sleeping = false → s.progWord s.pc.toNat = some w →
    (if s.wantsSecondWord w then s.progWord (s.pc.toNat + 1) = some w2 else w2 = 0) →
    decodeWords [w, w2] = .ok i →
      let u : State := { s.receiveRequests with irqDelay := if s.irqDelay = .set then .ending else s.irqDelay }
      (∀ t, exec i u = .next t →
        step s = .next { t with
          irqDelay := if t.irqDelay = .ending then .off else t.irqDelay
          wdtCount := if t.part.watchdog = none ∨ i = .wdr then t.wdtCount else t.wdtCount + cycles i u }) ∧
      (∀ f, exec i u = .fault f → step s = .fault f) ∧ ∀ q, exec i u = .refused q → step s = .refused q

/-- R25, R64, R113, R461: a fetch outside the program image faults, a missing second word faults, a word of no row
faults. Basis: the spec's decisions D1, D10, D30 (log entries 23, 26). -/
def Obligations.BadFetchFaults : Prop :=
  ∀ s : State, s.stopped = false → s.watchdogExpired = false → s.receiveRequests.accepted = none → s.sleeping = false →
    (s.progWord s.pc.toNat = none → step s = .fault (.fetchOutOfRange s.pc)) ∧
    (∀ w, s.progWord s.pc.toNat = some w → rowOf w = none → step s = .fault (.unassignedOpcode s.pc w)) ∧
    (∀ w, s.progWord s.pc.toNat = some w → s.wantsSecondWord w = true → s.progWord (s.pc.toNat + 1) = none →
      step s = .fault (.fetchOutOfRange (pcMod s.part (s.pc + 1))))

/-- R404, R406: an interrupt is accepted exactly when the core is not stopped, I is 1, no delay runs and some enabled
source requests, and the accepted source is the one of best rank among these, of lowest vector where ranks are equal
(the default rank is the vector address itself). Basis: the spec's decisions D7 and D8; that equal ranks go by the
vector too is the model's choice (log entries 13, 19). -/
def Obligations.AcceptanceNeedsEnableAndRequest : Prop :=
  ∀ s : State,
    (s.accepted.isSome = true ↔ s.stopped = false ∧ flagI s.sreg = true ∧ s.irqDelay = .off ∧
      ∃ n src, s.part.irqs[n]? = some src ∧ n ∈ s.irqPending ∧ s.irqEnabled src = true) ∧
    ∀ src n, s.accepted = some (src, n) →
      s.part.irqs[n]? = some src ∧ n ∈ s.irqPending ∧ s.irqEnabled src = true ∧
        ∀ m other, s.part.irqs[m]? = some other → m ∈ s.irqPending → s.irqEnabled other = true →
          src.rank ≤ other.rank ∧ (src.rank = other.rank → src.vector.toNat ≤ other.vector.toNat)

/-- R407: taking the accepted interrupt pushes the pc, clears I, ends sleep, acknowledges the source and goes to its
vector; no register and no other flag changes. Basis: the spec's decisions D5 and D7 and general knowledge GK8, GK16
(log entries 19, 22). -/
def Obligations.InterruptEntryPushesPcAndClearsI : Prop :=
  ∀ (s u : State) (src : IrqSource) (n : Nat), s.stopped = false → s.watchdogExpired = false → u = s.receiveRequests →
    u.accepted = some (src, n) → stackRoom u (retBytes u.part) →
      ∃ t, step s = .next t ∧ t.pc = pcMod u.part src.vector ∧ pushedAddress u.pc u t ∧ flagI t.sreg = false ∧
        KeepsFlags [7] u t ∧ KeepsRegs [] u t ∧ t.sleeping = false ∧
        t.irqPending = (if src.ackClears then u.irqPending.filter (fun k => k != n) else u.irqPending) ∧
        KeepsSram (pushSlots u (retBytes u.part)) u t ∧ KeepsSfrs [] u t ∧ KeepsProgram u t ∧ KeepsQuiet u t ∧
        KeepsControl u t ∧ t.part = u.part ∧ t.stopped = u.stopped ∧ t.wdtCount = u.wdtCount

/-- R403: at a boundary a pending request stays unless its device may and does withdraw it, a request appears where a
device raises one, only sources of the table request, and nothing else of the machine changes but the model's count of
draws. Basis: the spec's decision D7; the draw of the free values is the model's form (log entries 8, 14). -/
def Obligations.PendingRequestsStay : Prop :=
  ∀ s : State,
    (∀ n src, s.part.irqs[n]? = some src → n ∈ s.irqPending →
      (n ∈ s.receiveRequests.irqPending ↔ ¬(src.deviceWithdraws = true ∧ Config.irqWithdrawn s.draws n = true))) ∧
    (∀ n src, s.part.irqs[n]? = some src → n ∉ s.irqPending →
      (n ∈ s.receiveRequests.irqPending ↔ Config.irqRaised s.draws n = true)) ∧
    (s.part.irqs ≠ [] → ∀ n ∈ s.receiveRequests.irqPending, n < s.part.irqs.length) ∧
    KeepsRegs [] s s.receiveRequests ∧ KeepsFlags [] s s.receiveRequests ∧ KeepsMemory s s.receiveRequests ∧
    KeepsControl s s.receiveRequests ∧ s.receiveRequests.pc = s.pc ∧ s.receiveRequests.sp = s.sp ∧
    s.receiveRequests.irqDelay = s.irqDelay ∧ s.receiveRequests.sleeping = s.sleeping ∧
    s.receiveRequests.part = s.part ∧ s.receiveRequests.stopped = s.stopped ∧
    s.receiveRequests.wdtCount = s.wdtCount ∧ s.receiveRequests.ioLog = s.ioLog

/-- R351, R353, R404, R419: asleep, with nothing accepted, a step leaves the machine as it is but for the requests
that arrive; a stopped core takes no step. Basis: the spec's decisions D12 and D13; the fault stopped is the model's
choice (log entries 27, 28). -/
def Obligations.SleepingCoreWaitsStoppedCoreStops : Prop :=
  (∀ s : State, s.stopped = false → s.watchdogExpired = false → s.receiveRequests.accepted = none → s.sleeping = true →
    step s = .next s.receiveRequests) ∧
  ∀ s : State, s.stopped = true → step s = .fault .stopped

/-- R417, R450: a watchdog that is absent or has not reached its timeout resets nothing; an expired one, at a boundary
it is free to choose, puts the machine back into the reset state of its part and program image; at one it does not
choose the machine proceeds. Basis: the spec's decisions D9 and D14 (log entries 7, 16, 17). -/
def Obligations.WatchdogResetsOnlyWhenExpired : Prop :=
  (∀ s : State, s.watchdogExpired = true ↔ ∃ limit, s.part.watchdog = some limit ∧ limit ≤ s.wdtCount) ∧
  (∀ s : State, s.stopped = false → s.watchdogExpired = false → step s = s.receiveRequests.proceed exec) ∧
  ∀ s : State, s.stopped = false → s.watchdogExpired = true →
    ∃ t, step s = (if Config.watchdogFires s.draws then .next t else s.drawn.receiveRequests.proceed exec) ∧
      t.pc = 0 ∧ t.sreg = 0 ∧ t.rampz = 0 ∧ t.eind = 0 ∧ t.sp = s.part.resetSp ∧ t.sfr = s.part.sfrReset ∧
      t.prog = s.prog ∧ t.part = s.part ∧ t.irqPending = [] ∧ t.irqDelay = .off ∧ t.sleeping = false ∧
      t.stopped = false ∧ t.wdtCount = 0 ∧ t.ioLog = s.ioLog

/-- The invariant of Safety.lean (R24, R29, R38, R62, R411) is kept by every step. Basis: the data map is the spec's
decision D2, the canonical form and the form of irq_delay are the model's (log entries 5, 19, 20). -/
def Obligations.EveryStepKeepsTheInvariant : Prop := ∀ s t : State, s.Inv → step s = .next t → t.Inv

/-- The invariant holds at reset. Basis: the part of the reset state is the model's choice (log entry 1). -/
def Obligations.ResetStateSatisfiesTheInvariant : Prop := State.reset.Inv

/-- R40, R42, R43, R47 (decided by the spec, its D9): what the spec gives of the reset state. Basis: the spec's
decision D9 and general knowledge GK15 (log entry 9). -/
def Obligations.ResetValuesOfTheSpec : Prop :=
  ∀ (p : Part) (image : Memory), let s := State.resetOf p image
    s.pc = 0 ∧ s.sreg = 0 ∧ s.rampz = 0 ∧ s.eind = 0 ∧ s.sp = p.resetSp ∧ s.prog = image ∧ s.irqPending = [] ∧
      s.sleeping = false ∧ s.stopped = false ∧ s.irqDelay = .off ∧ s.wdtCount = 0

/-- R79, R463, R413: no step changes the program memory or the part. Basis: the rules derive it; SPM is refused by the
spec's decision D15 (log entry 26). -/
def Obligations.NoStepChangesProgramOrPart : Prop :=
  ∀ s t : State, step s = .next t → t.prog = s.prog ∧ t.part = s.part

/-- R25: an instruction that transfers no control ends 1 word on, LDS and STS 2 words on, modulo 2^`PC_BITS`. Basis:
the wrap is the spec's decision D1 (log entry 23). -/
def Obligations.StraightInstructionsAdvanceByTheirLength : Prop :=
  ∀ (i : Instr) (n : PcWord) (s t : State), straightWords i = some n → exec i s = .next t → Advances n s t

/-- R114: an instruction of a group the part lacks is an unassigned word. Basis: the spec's decision D27 (log entry
26). -/
def Obligations.AbsentGroupIsUnassigned : Prop :=
  ∀ (i : Instr) (s : State), absentOn s.part i = true → exec i s = .fault (.unassignedOpcode s.pc (firstWord i))

-- Arithmetic.

/-- R140, R143, R144, R192, R193: ADD, ADC and their aliases LSL, ROL; `irq_delay`, memory and everything else stay.
Basis: the reading of the Boolean formulas as carries and overflow is an inference (log entry 25). -/
def Obligations.AdditionsGiveSumAndFlags : Prop :=
  ∀ (d r : Reg) (s : State),
    (∃ t, exec (.add d r) s = .next t ∧ addOutcome (s.reg d) (s.reg r) false (t.reg d) t ∧
      KeepsFlags [0, 1, 2, 3, 4, 5] s t ∧ KeepsRegs [d] s t ∧ KeepsRest s t) ∧
    (∃ t, exec (.adc d r) s = .next t ∧ addOutcome (s.reg d) (s.reg r) (flagC s.sreg) (t.reg d) t ∧
      KeepsFlags [0, 1, 2, 3, 4, 5] s t ∧ KeepsRegs [d] s t ∧ KeepsRest s t) ∧
    (∃ t, exec (.lsl d) s = .next t ∧ t.reg d = BitVec.ofNat 8 (2 * (s.reg d).toNat) ∧
      flagC t.sreg = (s.reg d).getLsbD 7 ∧ flagH t.sreg = (s.reg d).getLsbD 3 ∧
      flagV t.sreg = (flagN t.sreg != flagC t.sreg) ∧ flagS t.sreg = flagC t.sreg ∧
      flagN t.sreg = (s.reg d).getLsbD 6 ∧ flagZ t.sreg = decide ((t.reg d).toNat = 0) ∧
      KeepsFlags [0, 1, 2, 3, 4, 5] s t ∧ KeepsRegs [d] s t ∧ KeepsRest s t) ∧
    (∃ t, exec (.rol d) s = .next t ∧ t.reg d = BitVec.ofNat 8 (2 * (s.reg d).toNat + bitNat (flagC s.sreg)) ∧
      flagC t.sreg = (s.reg d).getLsbD 7 ∧ flagH t.sreg = (s.reg d).getLsbD 3 ∧
      flagV t.sreg = (flagN t.sreg != flagC t.sreg) ∧ flagS t.sreg = flagC t.sreg ∧
      flagN t.sreg = (s.reg d).getLsbD 6 ∧ flagZ t.sreg = decide ((t.reg d).toNat = 0) ∧
      KeepsFlags [0, 1, 2, 3, 4, 5] s t ∧ KeepsRegs [d] s t ∧ KeepsRest s t)

/-- R141, R146, R147, R153: SUB, SUBI and NEG. Basis: the spec's decision D16 and general knowledge GK9 (log entry
25). -/
def Obligations.SubtractionsGiveDifferenceAndFlags : Prop :=
  ∀ (d r : Reg) (k : Byte) (s : State),
    (∃ t, exec (.sub d r) s = .next t ∧ subOutcome (s.reg d) (s.reg r) false true (t.reg d) t ∧
      KeepsFlags [0, 1, 2, 3, 4, 5] s t ∧ KeepsRegs [d] s t ∧ KeepsRest s t) ∧
    (∃ t, exec (.subi d k) s = .next t ∧ subOutcome (s.reg d) k false true (t.reg d) t ∧
      KeepsFlags [0, 1, 2, 3, 4, 5] s t ∧ KeepsRegs [d] s t ∧ KeepsRest s t) ∧
    (∃ t, exec (.neg d) s = .next t ∧ t.reg d = BitVec.ofInt 8 (-(s.reg d).toNat) ∧
      flagH t.sreg = ((t.reg d).getLsbD 3 || (s.reg d).getLsbD 3) ∧ flagC t.sreg = decide ((t.reg d).toNat ≠ 0) ∧
      flagV t.sreg = decide ((t.reg d).toNat = 0x80) ∧ flagN t.sreg = (t.reg d).getLsbD 7 ∧
      flagZ t.sreg = decide ((t.reg d).toNat = 0) ∧ flagS t.sreg = (flagN t.sreg != flagV t.sreg) ∧
      KeepsFlags [0, 1, 2, 3, 4, 5] s t ∧ KeepsRegs [d] s t ∧ KeepsRest s t)

/-- R141, R148, R149: SBC and SBCI subtract the borrow too, and set Z only if it was set. Basis: the spec's decision
D16 (log entry 25). -/
def Obligations.BorrowingSubtractionsKeepZeroSticky : Prop :=
  ∀ (d r : Reg) (k : Byte) (s : State),
    (∃ t, exec (.sbc d r) s = .next t ∧
      subOutcome (s.reg d) (s.reg r) (flagC s.sreg) (flagZ s.sreg) (t.reg d) t ∧
      KeepsFlags [0, 1, 2, 3, 4, 5] s t ∧ KeepsRegs [d] s t ∧ KeepsRest s t) ∧
    (∃ t, exec (.sbci d k) s = .next t ∧ subOutcome (s.reg d) k (flagC s.sreg) (flagZ s.sreg) (t.reg d) t ∧
      KeepsFlags [0, 1, 2, 3, 4, 5] s t ∧ KeepsRegs [d] s t ∧ KeepsRest s t)

/-- R141, R154, R155, R156: the comparisons set the flags of the subtraction and write no register. Basis: the spec's
decision D16 (log entry 25). -/
def Obligations.ComparisonsSetFlagsOnly : Prop :=
  ∀ (d r : Reg) (k : Byte) (s : State),
    (∃ t v, exec (.cp d r) s = .next t ∧ subOutcome (s.reg d) (s.reg r) false true v t ∧
      KeepsFlags [0, 1, 2, 3, 4, 5] s t ∧ KeepsRegs [] s t ∧ KeepsRest s t) ∧
    (∃ t v, exec (.cpi d k) s = .next t ∧ subOutcome (s.reg d) k false true v t ∧
      KeepsFlags [0, 1, 2, 3, 4, 5] s t ∧ KeepsRegs [] s t ∧ KeepsRest s t) ∧
    (∃ t v, exec (.cpc d r) s = .next t ∧ subOutcome (s.reg d) (s.reg r) (flagC s.sreg) (flagZ s.sreg) v t ∧
      KeepsFlags [0, 1, 2, 3, 4, 5] s t ∧ KeepsRegs [] s t ∧ KeepsRest s t)

/-- R154, R242: after `cp Rd,Rr`, BREQ, BRLO, BRSH, BRLT, BRGE and BRNE branch exactly when Rd is equal to, unsigned
lower than, unsigned not lower than, signed less than, signed not less than, different from Rr. Basis: the
comparison's flags are the spec's decision D16 (log entry 25). -/
def Obligations.CompareThenBranchOrders : Prop :=
  ∀ (d r : Reg) (k : BitVec 7) (s t : State), exec (.cp d r) s = .next t →
    let taken : State := { t with pc := pcMod t.part (t.pc + k.signExtend 22 + 1) }
    let passed : State := { t with pc := pcMod t.part (t.pc + 1) }
    exec (.breq k) t = .next (if s.reg d = s.reg r then taken else passed) ∧
    exec (.brne k) t = .next (if s.reg d ≠ s.reg r then taken else passed) ∧
    exec (.brlo k) t = .next (if (s.reg d).toNat < (s.reg r).toNat then taken else passed) ∧
    exec (.brsh k) t = .next (if (s.reg r).toNat ≤ (s.reg d).toNat then taken else passed) ∧
    exec (.brlt k) t = .next (if (s.reg d).toInt < (s.reg r).toInt then taken else passed) ∧
    exec (.brge k) t = .next (if (s.reg r).toInt ≤ (s.reg d).toInt then taken else passed)

/-- R83, R143, R144: `add` of the low bytes and `adc` of the high bytes of two pairs (or of one pair with itself) add
the pairs modulo 2^16, with C the carry out of 16 bits. Basis: a consequence of the rules, stated by no one of them.
-/
def Obligations.AddThenAdcAddsSixteenBits : Prop :=
  ∀ (d r : Reg) (s t u : State), d.isEven = true → r.isEven = true → exec (.add d r) s = .next t →
    exec (.adc (d + 1) (r + 1)) t = .next u →
      (u.pair d).toNat = ((s.pair d).toNat + (s.pair r).toNat) % 65536 ∧
      flagC u.sreg = decide (65535 < (s.pair d).toNat + (s.pair r).toNat)

/-- R142, R145, R150: ADIW and SBIW on a pair (the pairs R22 admits), flags from the 16-bit result, H kept. Basis: the
spec's decision D18 and general knowledge GK10 (log entry 25). -/
def Obligations.WordImmediatesWorkOnThePair : Prop :=
  ∀ (d : Reg) (k : BitVec 6) (s : State), d.isWordPair = true →
    (∃ t, exec (.adiw d k) s = .next t ∧ (t.pair d).toNat = ((s.pair d).toNat + k.toNat) % 65536 ∧
      flagC t.sreg = decide (65535 < (s.pair d).toNat + k.toNat) ∧
      wordFlags (t.pair d) (32767 < (s.pair d).toInt + k.toNat) t ∧ KeepsFlags [0, 1, 2, 3, 4] s t ∧
      KeepsRegs [d, d + 1] s t ∧ KeepsRest s t) ∧
    (∃ t, exec (.sbiw d k) s = .next t ∧ ((t.pair d).toNat : Int) = ((s.pair d).toNat - k.toNat) % 65536 ∧
      flagC t.sreg = decide ((s.pair d).toNat < k.toNat) ∧
      wordFlags (t.pair d) ((s.pair d).toInt - k.toNat < -32768) t ∧ KeepsFlags [0, 1, 2, 3, 4] s t ∧
      KeepsRegs [d, d + 1] s t ∧ KeepsRest s t)

/-- R151, R152: INC and DEC; V exactly at $7F and $80, C and H kept. Basis: the spec's decision D16 (log entry 25). -/
def Obligations.IncrementAndDecrementKeepCarries : Prop :=
  ∀ (d : Reg) (s : State),
    (∃ t, exec (.inc d) s = .next t ∧ (t.reg d).toNat = ((s.reg d).toNat + 1) % 256 ∧
      flagV t.sreg = decide ((s.reg d).toInt = 127) ∧ flagN t.sreg = decide ((t.reg d).toInt < 0) ∧
      flagZ t.sreg = decide ((s.reg d).toNat = 255) ∧ flagS t.sreg = (flagN t.sreg != flagV t.sreg) ∧
      KeepsFlags [1, 2, 3, 4] s t ∧ KeepsRegs [d] s t ∧ KeepsRest s t) ∧
    (∃ t, exec (.dec d) s = .next t ∧ ((t.reg d).toNat : Int) = ((s.reg d).toNat - 1) % 256 ∧
      flagV t.sreg = decide ((s.reg d).toInt = -128) ∧ flagN t.sreg = decide ((t.reg d).toInt < 0) ∧
      flagZ t.sreg = decide ((s.reg d).toNat = 1) ∧ flagS t.sreg = (flagN t.sreg != flagV t.sreg) ∧
      KeepsFlags [1, 2, 3, 4] s t ∧ KeepsRegs [d] s t ∧ KeepsRest s t)

/-- R157 to R160: MUL, MULS, MULSU write the 16-bit product to R1:R0, C its bit 15, Z whether it is 0. Basis: the
spec's decision D29 and general knowledge GK11 (log entry 25). -/
def Obligations.ProductsGoToR1R0 : Prop :=
  ∀ (d r : Reg) (s : State), s.part.hasMul = true →
    (∃ t p, exec (.mul d r) s = .next t ∧ p = BitVec.ofNat 16 ((s.reg d).toNat * (s.reg r).toNat) ∧
      mulOutcome p (p.getLsbD 15) s t) ∧
    (∃ t p, exec (.muls d r) s = .next t ∧ p = BitVec.ofInt 16 ((s.reg d).toInt * (s.reg r).toInt) ∧
      mulOutcome p (p.getLsbD 15) s t) ∧
    (∃ t p, exec (.mulsu d r) s = .next t ∧ p = BitVec.ofInt 16 ((s.reg d).toInt * (s.reg r).toNat) ∧
      mulOutcome p (p.getLsbD 15) s t)

/-- R157, R161 to R163: FMUL, FMULS, FMULSU write twice the product modulo 2^16, C is bit 16 of twice the 16-bit
product (its bit 15), Z whether the value written is 0. Basis: the spec's decisions D19 and D29 and general knowledge
GK11 (log entry 25). -/
def Obligations.FractionalProductsAreDoubled : Prop :=
  ∀ (d r : Reg) (s : State), s.part.hasMul = true →
    (∃ t, exec (.fmul d r) s = .next t ∧
      mulOutcome (BitVec.ofNat 16 (2 * ((s.reg d).toNat * (s.reg r).toNat)))
        (decide (32768 ≤ (s.reg d).toNat * (s.reg r).toNat)) s t) ∧
    (∃ t, exec (.fmuls d r) s = .next t ∧
      mulOutcome (BitVec.ofInt 16 (2 * ((s.reg d).toInt * (s.reg r).toInt)))
        (decide ((s.reg d).toInt * (s.reg r).toInt < 0)) s t) ∧
    (∃ t, exec (.fmulsu d r) s = .next t ∧
      mulOutcome (BitVec.ofInt 16 (2 * ((s.reg d).toInt * (s.reg r).toNat)))
        (decide ((s.reg d).toInt * (s.reg r).toNat < 0)) s t)

-- Logic and shifts.

/-- R181 to R186, R194, R195, R197, R198: the logic instructions bit by bit, their aliases, V cleared, C and H kept.
Basis: the order of split fields in the words is the spec's general knowledge GK3, R102 (log entry 35). -/
def Obligations.LogicInstructionsBitByBit : Prop :=
  ∀ (d r : Reg) (k : Byte) (s : State),
    formOf (.and_ d r) (0b001000#6 ++ r.extractLsb' 4 1 ++ d ++ r.extractLsb' 0 4) True ∧
    formOf (.or_ d r) (0b001010#6 ++ r.extractLsb' 4 1 ++ d ++ r.extractLsb' 0 4) True ∧
    formOf (.eor d r) (0b001001#6 ++ r.extractLsb' 4 1 ++ d ++ r.extractLsb' 0 4) True ∧
    formOf (.andi d k) (0b0111#4 ++ k.extractLsb' 4 4 ++ d.extractLsb' 0 4 ++ k.extractLsb' 0 4) (16 ≤ d.toNat) ∧
    formOf (.ori d k) (0b0110#4 ++ k.extractLsb' 4 4 ++ d.extractLsb' 0 4 ++ k.extractLsb' 0 4) (16 ≤ d.toNat) ∧
    (∃ t v, exec (.and_ d r) s = .next t ∧ logicOutcome d v s t ∧
      ∀ n < 8, v.getLsbD n = ((s.reg d).getLsbD n && (s.reg r).getLsbD n)) ∧
    (∃ t v, exec (.or_ d r) s = .next t ∧ logicOutcome d v s t ∧
      ∀ n < 8, v.getLsbD n = ((s.reg d).getLsbD n || (s.reg r).getLsbD n)) ∧
    (∃ t v, exec (.eor d r) s = .next t ∧ logicOutcome d v s t ∧
      ∀ n < 8, v.getLsbD n = ((s.reg d).getLsbD n != (s.reg r).getLsbD n)) ∧
    (∃ t v, exec (.andi d k) s = .next t ∧ logicOutcome d v s t ∧
      ∀ n < 8, v.getLsbD n = ((s.reg d).getLsbD n && k.getLsbD n)) ∧
    (∃ t v, exec (.ori d k) s = .next t ∧ logicOutcome d v s t ∧
      ∀ n < 8, v.getLsbD n = ((s.reg d).getLsbD n || k.getLsbD n)) ∧
    (∃ t v, exec (.cbr d k) s = .next t ∧ logicOutcome d v s t ∧
      ∀ n < 8, v.getLsbD n = ((s.reg d).getLsbD n && !k.getLsbD n)) ∧
    (∃ t v, exec (.sbr d k) s = .next t ∧ logicOutcome d v s t ∧
      ∀ n < 8, v.getLsbD n = ((s.reg d).getLsbD n || k.getLsbD n)) ∧
    (∃ t, exec (.tst d) s = .next t ∧ logicOutcome d (s.reg d) s t) ∧
    (∃ t, exec (.clr d) s = .next t ∧ logicOutcome d 0 s t)

/-- R187: COM complements every bit, S N Z by the result, V cleared, C set, H kept. -/
def Obligations.ComplementSetsCarry : Prop :=
  ∀ (d : Reg) (s : State),
    formOf (.com d) (0b1001010#7 ++ d ++ 0b0000#4) True ∧
    ∃ t, exec (.com d) s = .next t ∧ (t.reg d).toNat = 255 - (s.reg d).toNat ∧
      (∀ n < 8, (t.reg d).getLsbD n = !(s.reg d).getLsbD n) ∧ flagC t.sreg = true ∧ flagV t.sreg = false ∧
      flagN t.sreg = (t.reg d).getLsbD 7 ∧ flagZ t.sreg = decide ((s.reg d).toNat = 255) ∧
      flagS t.sreg = (t.reg d).getLsbD 7 ∧ KeepsFlags [0, 1, 2, 3, 4] s t ∧ KeepsRegs [d] s t ∧ KeepsRest s t

/-- R180, R188 to R190: ASR halves the signed value, LSR the unsigned one, ROR takes the old C in at bit 7. Basis: the
spec's decision D17 and general knowledge GK12 (log entry 25). -/
def Obligations.RightShiftsHalve : Prop :=
  ∀ (d : Reg) (s : State),
    (∃ t v, exec (.asr d) s = .next t ∧ shiftOutcome d (s.reg d) v s t ∧ v.toInt = (s.reg d).toInt / 2) ∧
    (∃ t v, exec (.lsr d) s = .next t ∧ shiftOutcome d (s.reg d) v s t ∧ v.toNat = (s.reg d).toNat / 2) ∧
    (∃ t v, exec (.ror d) s = .next t ∧ shiftOutcome d (s.reg d) v s t ∧
      v.toNat = (s.reg d).toNat / 2 + 128 * bitNat (flagC s.sreg))

/-- R191, R196, R290 to R292: MOV, LDI, SER and MOVW copy, SWAP exchanges the two halves of a register, and none
touches a flag; MOVW reads both bytes before it writes. Basis: the order of split fields in the words of MOV and LDI
is the spec's general knowledge GK3, R102 (log entry 35). -/
def Obligations.MovesCopyWithoutFlags : Prop :=
  ∀ (d r : Reg) (k : Byte) (s : State),
    formOf (.mov d r) (0b001011#6 ++ r.extractLsb' 4 1 ++ d ++ r.extractLsb' 0 4) True ∧
    formOf (.ldi d k) (0b1110#4 ++ k.extractLsb' 4 4 ++ d.extractLsb' 0 4 ++ k.extractLsb' 0 4) (16 ≤ d.toNat) ∧
    formOf (.ser d) (0b11101111#8 ++ d.extractLsb' 0 4 ++ 0b1111#4) (16 ≤ d.toNat) ∧
    formOf (.swap d) (0b1001010#7 ++ d ++ 0b0010#4) True ∧
    formOf (.movw d r) (0b00000001#8 ++ d.extractLsb' 1 4 ++ r.extractLsb' 1 4)
      (d.toNat % 2 = 0 ∧ r.toNat % 2 = 0) ∧
    (∃ t, exec (.mov d r) s = .next t ∧ moveOutcome d (s.reg r) s t) ∧
    (∃ t, exec (.ldi d k) s = .next t ∧ moveOutcome d k s t) ∧
    (∃ t, exec (.ser d) s = .next t ∧ moveOutcome d 0xFF s t) ∧
    (∃ t v, exec (.swap d) s = .next t ∧ moveOutcome d v s t ∧
      v.toNat = (s.reg d).toNat % 16 * 16 + (s.reg d).toNat / 16) ∧
    (s.part.hasMovw = true → d.isEven = true → r.isEven = true →
      ∃ t, exec (.movw d r) s = .next t ∧ t.reg d = s.reg r ∧ t.reg (d + 1) = s.reg (r + 1) ∧
        KeepsRegs [d, d + 1] s t ∧ KeepsFlags [] s t ∧ KeepsRest s t)

-- Bits.

/-- R210 to R213, R411: BSET and BCLR and their sixteen names set and clear the bit of SREG they name, and no other;
setting I also sets `irq_delay`. Basis: irq_delay is the spec's decision D26 and general knowledge GK16 (log entry
19). -/
def Obligations.FlagInstructionsChangeOneBit : Prop :=
  ∀ (b : BitVec 3) (s : State),
    (∃ t, exec (.bset b) s = .next t ∧ flagOutcome b true s t) ∧
    (∃ t, exec (.bclr b) s = .next t ∧ flagOutcome b false s t) ∧
    (∃ t, exec .sec s = .next t ∧ flagOutcome 0 true s t) ∧ (∃ t, exec .sez s = .next t ∧ flagOutcome 1 true s t) ∧
    (∃ t, exec .sen s = .next t ∧ flagOutcome 2 true s t) ∧ (∃ t, exec .sev s = .next t ∧ flagOutcome 3 true s t) ∧
    (∃ t, exec .ses s = .next t ∧ flagOutcome 4 true s t) ∧ (∃ t, exec .seh s = .next t ∧ flagOutcome 5 true s t) ∧
    (∃ t, exec .set_ s = .next t ∧ flagOutcome 6 true s t) ∧ (∃ t, exec .sei s = .next t ∧ flagOutcome 7 true s t) ∧
    (∃ t, exec .clc s = .next t ∧ flagOutcome 0 false s t) ∧ (∃ t, exec .clz s = .next t ∧ flagOutcome 1 false s t) ∧
    (∃ t, exec .cln s = .next t ∧ flagOutcome 2 false s t) ∧ (∃ t, exec .clv s = .next t ∧ flagOutcome 3 false s t) ∧
    (∃ t, exec .cls s = .next t ∧ flagOutcome 4 false s t) ∧ (∃ t, exec .clh s = .next t ∧ flagOutcome 5 false s t) ∧
    (∃ t, exec .clt s = .next t ∧ flagOutcome 6 false s t) ∧ (∃ t, exec .cli s = .next t ∧ flagOutcome 7 false s t)

/-- R214, R215: BST copies a register bit to T, BLD copies T to a register bit; nothing else changes. -/
def Obligations.BitTransferThroughT : Prop :=
  ∀ (d : Reg) (b : BitVec 3) (s : State),
    formOf (.bld d b) (0b1111100#7 ++ d ++ 0#1 ++ b) True ∧ formOf (.bst d b) (0b1111101#7 ++ d ++ 0#1 ++ b) True ∧
    (∃ t, exec (.bst d b) s = .next t ∧ flagT t.sreg = (s.reg d).getLsbD b.toNat ∧ KeepsFlags [6] s t ∧
      KeepsRegs [] s t ∧ KeepsRest s t) ∧
    (∃ t, exec (.bld d b) s = .next t ∧ (t.reg d).getLsbD b.toNat = flagT s.sreg ∧
      (∀ n < 8, n ≠ b.toNat → (t.reg d).getLsbD n = (s.reg d).getLsbD n) ∧ KeepsRegs [d] s t ∧ KeepsFlags [] s t ∧
      KeepsRest s t)

/-- R71, R216, R217: SBI and CBI on an SFR of plain storage change one bit of it, and their read and their write are
both seen outside, in this order. Basis: the kinds of SFR are the model's form of the parameter IoBehaviour (log entry
11); the log of accesses is log entry 7. -/
def Obligations.SfrBitInstructionsReadThenWrite : Prop :=
  ∀ (a : BitVec 5) (b : BitVec 3) (s : State), Memory.wf (some 0#8) s.sfr = true →
    coreSfrAt s.part (sfrAddr a.toNat) = none →
    sfrKindAt s.part (sfrAddr a.toNat) = some .storage →
    (∃ t, exec (.sbi a b) s = .next t ∧ (t.sfrByte (sfrAddr a.toNat)).getLsbD b.toNat = true ∧
      (∀ n < 8, n ≠ b.toNat →
        (t.sfrByte (sfrAddr a.toNat)).getLsbD n = (s.sfrByte (sfrAddr a.toNat)).getLsbD n) ∧
      t.ioLog = s.ioLog ++ [.read (sfrAddr a.toNat) (s.sfrByte (sfrAddr a.toNat))] ++
        [.write (sfrAddr a.toNat) (t.sfrByte (sfrAddr a.toNat))] ∧
      KeepsSfrs [sfrAddr a.toNat] s t ∧ KeepsSram [] s t ∧ KeepsProgram s t ∧ KeepsRegs [] s t ∧ KeepsFlags [] s t ∧
      KeepsHidden s t ∧ KeepsControl s t ∧ t.sp = s.sp ∧ t.irqDelay = s.irqDelay ∧ t.draws = s.draws) ∧
    (∃ t, exec (.cbi a b) s = .next t ∧ (t.sfrByte (sfrAddr a.toNat)).getLsbD b.toNat = false ∧
      (∀ n < 8, n ≠ b.toNat →
        (t.sfrByte (sfrAddr a.toNat)).getLsbD n = (s.sfrByte (sfrAddr a.toNat)).getLsbD n) ∧
      t.ioLog = s.ioLog ++ [.read (sfrAddr a.toNat) (s.sfrByte (sfrAddr a.toNat))] ++
        [.write (sfrAddr a.toNat) (t.sfrByte (sfrAddr a.toNat))] ∧
      KeepsSfrs [sfrAddr a.toNat] s t ∧ KeepsSram [] s t ∧ KeepsProgram s t ∧ KeepsRegs [] s t ∧ KeepsFlags [] s t ∧
      KeepsHidden s t ∧ KeepsControl s t ∧ t.sp = s.sp ∧ t.irqDelay = s.irqDelay ∧ t.draws = s.draws)

/-- R71, R403, R459: on an SFR of flags that a written 1 clears, SBI clears every flag that reads as 1 and flag b, and
CBI every flag that reads as 1 but flag b; whichever flags the device raises just before; also where the part makes
MCUCR such an SFR. Basis: write-1-to-clear flags are the model's form of the parameter IoBehaviour (log entries 11,
12). -/
def Obligations.SfrBitInstructionsClearOtherFlags : Prop :=
  ∀ (a : BitVec 5) (b : BitVec 3) (s : State), Memory.wf (some 0#8) s.sfr = true →
    coreSfrAt s.part (sfrAddr a.toNat) = none →
    sfrKindAt s.part (sfrAddr a.toNat) = some .flags →
    (archSfrAt s.part (sfrAddr a.toNat) = none →
      (∃ t, exec (.sbi a b) s = .next t ∧ t.sfrByte (sfrAddr a.toNat) = 0 ∧ KeepsSfrs [sfrAddr a.toNat] s t ∧
        KeepsRegs [] s t ∧ KeepsFlags [] s t ∧ KeepsSram [] s t ∧ KeepsProgram s t ∧ KeepsControl s t ∧ t.sp = s.sp) ∧
      (∃ t v, exec (.cbi a b) s = .next t ∧ v = (s.sfrByte (sfrAddr a.toNat) ||| Config.flagsRaised s.draws) ∧
        (∀ n < 8, (t.sfrByte (sfrAddr a.toNat)).getLsbD n = (decide (n = b.toNat) && v.getLsbD n)) ∧
        KeepsSfrs [sfrAddr a.toNat] s t ∧ KeepsRegs [] s t ∧ KeepsFlags [] s t ∧ KeepsSram [] s t ∧ KeepsProgram s t ∧
        KeepsControl s t ∧ t.sp = s.sp)) ∧
    (archSfrAt s.part (sfrAddr a.toNat) = some .mcucr →
      (∃ t, exec (.sbi a b) s = .next t ∧ t.mcucr = 0 ∧ t.rampz = s.rampz ∧ t.eind = s.eind ∧ KeepsMemory s t ∧
        KeepsRegs [] s t ∧ KeepsFlags [] s t ∧ t.sp = s.sp) ∧
      ∃ t, exec (.cbi a b) s = .next t ∧
        (∀ n < 8, t.mcucr.getLsbD n = (decide (n = b.toNat) && (s.mcucr ||| Config.flagsRaised s.draws).getLsbD n)) ∧
        t.rampz = s.rampz ∧ t.eind = s.eind ∧ KeepsMemory s t ∧ KeepsRegs [] s t ∧ KeepsFlags [] s t ∧ t.sp = s.sp)

-- Control.

/-- R240 to R242: BRBS, BRBC and their nineteen names go to pc + k + 1 when the bit they name has the value they ask
for, else to pc + 1; nothing else changes. Basis: the wrap is the spec's decision D1 (log entry 23). -/
def Obligations.BranchesGoByTheirFlag : Prop :=
  ∀ (b : BitVec 3) (k : BitVec 7) (s : State),
    (∃ t, exec (.brbs b k) s = .next t ∧ branchOutcome (s.sreg.getLsbD b.toNat) k s t) ∧
    (∃ t, exec (.brbc b k) s = .next t ∧ branchOutcome (!s.sreg.getLsbD b.toNat) k s t) ∧
    (∃ t, exec (.brcc k) s = .next t ∧ branchOutcome (!s.sreg.getLsbD 0) k s t) ∧
    (∃ t, exec (.brcs k) s = .next t ∧ branchOutcome (s.sreg.getLsbD 0) k s t) ∧
    (∃ t, exec (.brsh k) s = .next t ∧ branchOutcome (!s.sreg.getLsbD 0) k s t) ∧
    (∃ t, exec (.brlo k) s = .next t ∧ branchOutcome (s.sreg.getLsbD 0) k s t) ∧
    (∃ t, exec (.brne k) s = .next t ∧ branchOutcome (!s.sreg.getLsbD 1) k s t) ∧
    (∃ t, exec (.breq k) s = .next t ∧ branchOutcome (s.sreg.getLsbD 1) k s t) ∧
    (∃ t, exec (.brpl k) s = .next t ∧ branchOutcome (!s.sreg.getLsbD 2) k s t) ∧
    (∃ t, exec (.brmi k) s = .next t ∧ branchOutcome (s.sreg.getLsbD 2) k s t) ∧
    (∃ t, exec (.brvc k) s = .next t ∧ branchOutcome (!s.sreg.getLsbD 3) k s t) ∧
    (∃ t, exec (.brvs k) s = .next t ∧ branchOutcome (s.sreg.getLsbD 3) k s t) ∧
    (∃ t, exec (.brge k) s = .next t ∧ branchOutcome (!s.sreg.getLsbD 4) k s t) ∧
    (∃ t, exec (.brlt k) s = .next t ∧ branchOutcome (s.sreg.getLsbD 4) k s t) ∧
    (∃ t, exec (.brhc k) s = .next t ∧ branchOutcome (!s.sreg.getLsbD 5) k s t) ∧
    (∃ t, exec (.brhs k) s = .next t ∧ branchOutcome (s.sreg.getLsbD 5) k s t) ∧
    (∃ t, exec (.brtc k) s = .next t ∧ branchOutcome (!s.sreg.getLsbD 6) k s t) ∧
    (∃ t, exec (.brts k) s = .next t ∧ branchOutcome (s.sreg.getLsbD 6) k s t) ∧
    (∃ t, exec (.brid k) s = .next t ∧ branchOutcome (!s.sreg.getLsbD 7) k s t) ∧
    (∃ t, exec (.brie k) s = .next t ∧ branchOutcome (s.sreg.getLsbD 7) k s t) ∧
    (∃ t, exec (.bric k) s = .next t ∧ branchOutcome (s.sreg.getLsbD 7) k s t)

/-- R243 to R246: RJMP goes to pc + k + 1, JMP to k, IJMP to Z, EIJMP to EIND:Z, each modulo 2^`PC_BITS`; nothing else
changes. Basis: the spec's decisions D1 and D28 and general knowledge GK4 (log entries 23, 24). -/
def Obligations.JumpsGoToTheirTargets : Prop :=
  ∀ s : State,
    (∀ k : BitVec 12, ∃ t, exec (.rjmp k) s = .next t ∧ onlyPc s t ∧
      (t.pc.toNat : Int) = ((s.pc.toNat : Int) + k.toInt + 1) % (pcSpan s.part : Int)) ∧
    (s.part.hasJmpCall = true → ∀ k : BitVec 22, ∃ t, exec (.jmp k) s = .next t ∧ onlyPc s t ∧
      t.pc.toNat = k.toNat % pcSpan s.part) ∧
    (s.part.hasIjmpIcall = true → ∃ t, exec .ijmp s = .next t ∧ onlyPc s t ∧
      t.pc.toNat = (s.reg 31).toNat * 256 + (s.reg 30).toNat) ∧
    (s.part.hasExt = true → ∃ t, exec .eijmp s = .next t ∧ onlyPc s t ∧
      t.pc.toNat = (s.eind.toNat * 65536 + (s.reg 31).toNat * 256 + (s.reg 30).toNat) % pcSpan s.part)

/-- R67, R73, R247 to R250, R259: the calls push the address of the next instruction, low byte first, and go to their
target, which is computed before the push; also where SP points into the register area or at SFRs of plain storage,
and then the registers or SFRs there are written. Basis: the spec's decisions D5, D6 and D28 and general knowledge
GK8; the data map is D2; the kinds of SFR are the model's form of IoBehaviour (log entries 11, 20, 22, 24). -/
def Obligations.CallsPushTheReturnAddress : Prop :=
  (∀ s : State, stackRoom s (retBytes s.part) →
    (∀ k : BitVec 12, ∃ t, exec (.rcall k) s = .next t ∧ callOutcome 1 (s.pc + k.signExtend 22 + 1) s t) ∧
    (s.part.hasJmpCall = true → ∀ k : BitVec 22, ∃ t, exec (.call k) s = .next t ∧ callOutcome 2 k s t) ∧
    (s.part.hasIjmpIcall = true → ∃ t, exec .icall s = .next t ∧
      callOutcome 1 (BitVec.ofNat 22 ((s.reg 31).toNat * 256 + (s.reg 30).toNat)) s t) ∧
    (s.part.hasExt = true → ∃ t, exec .eicall s = .next t ∧
      callOutcome 1 (BitVec.ofNat 22 (s.eind.toNat * 65536 + (s.reg 31).toNat * 256 + (s.reg 30).toNat)) s t)) ∧
  ∀ s : State, Memory.wf (some 0#8) s.sfr = true → stackStores s (retBytes s.part) →
    (∀ k : BitVec 12, ∃ t, exec (.rcall k) s = .next t ∧ callAnywhere 1 (s.pc + k.signExtend 22 + 1) s t) ∧
    (s.part.hasJmpCall = true → ∀ k : BitVec 22, ∃ t, exec (.call k) s = .next t ∧ callAnywhere 2 k s t) ∧
    (s.part.hasIjmpIcall = true → ∃ t, exec .icall s = .next t ∧
      callAnywhere 1 (BitVec.ofNat 22 ((s.reg 31).toNat * 256 + (s.reg 30).toNat)) s t) ∧
    (s.part.hasExt = true → ∃ t, exec .eicall s = .next t ∧
      callAnywhere 1 (BitVec.ofNat 22 (s.eind.toNat * 65536 + (s.reg 31).toNat * 256 + (s.reg 30).toNat)) s t)

/-- R67, R251, R252, R409, R411: RET goes to the popped address; RETI too, and it sets I and `irq_delay` and no other
flag. Basis: the spec's decisions D5, D26 and D28 (log entries 19, 22, 24). -/
def Obligations.ReturnsPopTheAddress : Prop :=
  ∀ (s : State) (a : PcWord), poppable a s →
    (∃ t, exec .ret s = .next t ∧ returnOutcome a s t ∧ KeepsFlags [] s t ∧ t.irqDelay = s.irqDelay) ∧
    (∃ t, exec .reti s = .next t ∧ returnOutcome a s t ∧ flagI t.sreg = true ∧ KeepsFlags [7] s t ∧
      t.irqDelay = .set)

/-- R259: after a call, a RET executed with the stack and SP the call left continues behind the call, with SP
restored. Basis: the spec's decisions D5 and D6 (log entry 22). -/
def Obligations.ReturnContinuesBehindTheCall : Prop :=
  ∀ (k : BitVec 12) (s t u : State), stackRoom s (retBytes s.part) → s.sp.toNat < spSpan s.part →
    exec (.rcall k) s = .next t → u.part = t.part → u.sp = t.sp → u.sram = t.sram →
      ∃ v, exec .ret u = .next v ∧ v.pc = pcMod s.part (s.pc + 1) ∧ v.sp = s.sp

/-- R253 to R255, R258: CPSE, SBRC and SBRS skip the next instruction, of one or two words by its first word, exactly
when their condition holds, and nothing but pc changes; where no word follows in the program image, a skip whose
condition holds faults (R461). Basis: the spec's decisions D1, D20 and D30 (log entries 23, 31). -/
def Obligations.RegisterSkipsPassOneInstruction : Prop :=
  ∀ (d r : Reg) (b : BitVec 3) (w : Word) (s : State),
    (skipReady (decide (s.reg d = s.reg r)) w s →
      ∃ t, exec (.cpse d r) s = .next t ∧ skipOutcome (decide (s.reg d = s.reg r)) w s t) ∧
    (skipReady (!(s.reg r).getLsbD b.toNat) w s →
      ∃ t, exec (.sbrc r b) s = .next t ∧ skipOutcome (!(s.reg r).getLsbD b.toNat) w s t) ∧
    (skipReady ((s.reg r).getLsbD b.toNat) w s →
      ∃ t, exec (.sbrs r b) s = .next t ∧ skipOutcome ((s.reg r).getLsbD b.toNat) w s t) ∧
    (s.progWord (s.pc.toNat + 1) = none →
      (s.reg d = s.reg r → exec (.cpse d r) s = .fault (.fetchOutOfRange (pcMod s.part (s.pc + 1)))) ∧
      ((s.reg r).getLsbD b.toNat = false → exec (.sbrc r b) s = .fault (.fetchOutOfRange (pcMod s.part (s.pc + 1)))) ∧
      ((s.reg r).getLsbD b.toNat = true → exec (.sbrs r b) s = .fault (.fetchOutOfRange (pcMod s.part (s.pc + 1)))))

/-- R256, R257, R258: SBIC and SBIS read the SFR once, any byte a pin register shows or the byte plain storage holds,
and skip by its bit. Basis: the kinds of SFR are the model's form of IoBehaviour; the pin byte is a free value (log
entries 11, 12, 31). -/
def Obligations.SfrSkipsReadOnce : Prop :=
  ∀ (a : BitVec 5) (b : BitVec 3) (v : Byte) (w : Word) (s : State), coreSfrAt s.part (sfrAddr a.toNat) = none →
    (sfrKindAt s.part (sfrAddr a.toNat) = some .storage ∧ v = s.sfrByte (sfrAddr a.toNat) ∨
      sfrKindAt s.part (sfrAddr a.toNat) = some .pins ∧ v = Config.pinByte s.draws) →
    (skipReady (!v.getLsbD b.toNat) w s → ∃ t, exec (.sbic a b) s = .next t ∧
      t.pc = pcMod s.part (s.pc + (if v.getLsbD b.toNat then 1 else 1 + BitVec.ofNat 22 (instrLen w))) ∧
      sfrReadFrame (sfrAddr a.toNat) v s t ∧ KeepsRegs [] s t ∧ KeepsSfrs [] s t) ∧
    (skipReady (v.getLsbD b.toNat) w s → ∃ t, exec (.sbis a b) s = .next t ∧
      t.pc = pcMod s.part (s.pc + (if v.getLsbD b.toNat then 1 + BitVec.ofNat 22 (instrLen w) else 1)) ∧
      sfrReadFrame (sfrAddr a.toNat) v s t ∧ KeepsRegs [] s t ∧ KeepsSfrs [] s t)

-- Transfers.

/-- R293 to R303: every load from plain storage (a register's address or a written SRAM byte), with the address of its
form; the post-increment forms address with the old pointer, the pre-decrement forms with the new one. Basis: the data
map and the wrap of pointers are the spec's decisions D2 and D22 (log entries 20, 24). -/
def Obligations.LoadsReadTheAddressedByte : Prop :=
  ∀ (d : Reg) (q : BitVec 6) (k : Word) (s : State),
    loadsPlain (.ldX d) d (s.pair 26) s [] s ∧ loadsPlain (.ldY d) d (s.pair 28) s [] s ∧
    loadsPlain (.ldZ d) d (s.pair 30) s [] s ∧ loadsPlain (.lddY d q) d (s.pair 28 + q.setWidth 16) s [] s ∧
    loadsPlain (.lddZ d q) d (s.pair 30 + q.setWidth 16) s [] s ∧ loadsPlain (.lds d k) d k s [] s ∧
    (d ≠ 26 → d ≠ 27 →
      (∀ v, plainByte s (s.pair 26) = some v → ∃ t, exec (.ldXInc d) s = .next t ∧ t.reg d = v ∧
        t.pair 26 = s.pair 26 + 1 ∧ KeepsRegs [d, 26, 27] s t ∧ KeepsFlags [] s t ∧ KeepsRest s t) ∧
      loadsPlain (.ldXDec d) d (s.pair 26 - 1) (s.setPair 26 (s.pair 26 - 1)) [26, 27] s) ∧
    (d ≠ 28 → d ≠ 29 →
      (∀ v, plainByte s (s.pair 28) = some v → ∃ t, exec (.ldYInc d) s = .next t ∧ t.reg d = v ∧
        t.pair 28 = s.pair 28 + 1 ∧ KeepsRegs [d, 28, 29] s t ∧ KeepsFlags [] s t ∧ KeepsRest s t) ∧
      loadsPlain (.ldYDec d) d (s.pair 28 - 1) (s.setPair 28 (s.pair 28 - 1)) [28, 29] s) ∧
    (d ≠ 30 → d ≠ 31 →
      (∀ v, plainByte s (s.pair 30) = some v → ∃ t, exec (.ldZInc d) s = .next t ∧ t.reg d = v ∧
        t.pair 30 = s.pair 30 + 1 ∧ KeepsRegs [d, 30, 31] s t ∧ KeepsFlags [] s t ∧ KeepsRest s t) ∧
      loadsPlain (.ldZDec d) d (s.pair 30 - 1) (s.setPair 30 (s.pair 30 - 1)) [30, 31] s)

/-- R293, R304 to R313: every store to an SRAM address, with the address of its form, writes that byte alone; pointers
as in the loads. Basis: the data map and the wrap of pointers are the spec's decisions D2 and D22 (log entries 20,
24). -/
def Obligations.StoresWriteTheAddressedByte : Prop :=
  ∀ (r : Reg) (q : BitVec 6) (k : Word) (s : State),
    storesSram (.stX r) (s.reg r) (s.pair 26) s [] s ∧ storesSram (.stY r) (s.reg r) (s.pair 28) s [] s ∧
    storesSram (.stZ r) (s.reg r) (s.pair 30) s [] s ∧
    storesSram (.stdY q r) (s.reg r) (s.pair 28 + q.setWidth 16) s [] s ∧
    storesSram (.stdZ q r) (s.reg r) (s.pair 30 + q.setWidth 16) s [] s ∧ storesSram (.sts k r) (s.reg r) k s [] s ∧
    (r ≠ 26 → r ≠ 27 →
      storesSram (.stXInc r) (s.reg r) (s.pair 26) (s.setPair 26 (s.pair 26 + 1)) [26, 27] s ∧
      storesSram (.stXDec r) (s.reg r) (s.pair 26 - 1) (s.setPair 26 (s.pair 26 - 1)) [26, 27] s) ∧
    (r ≠ 28 → r ≠ 29 →
      storesSram (.stYInc r) (s.reg r) (s.pair 28) (s.setPair 28 (s.pair 28 + 1)) [28, 29] s ∧
      storesSram (.stYDec r) (s.reg r) (s.pair 28 - 1) (s.setPair 28 (s.pair 28 - 1)) [28, 29] s) ∧
    (r ≠ 30 → r ≠ 31 →
      storesSram (.stZInc r) (s.reg r) (s.pair 30) (s.setPair 30 (s.pair 30 + 1)) [30, 31] s ∧
      storesSram (.stZDec r) (s.reg r) (s.pair 30 - 1) (s.setPair 30 (s.pair 30 - 1)) [30, 31] s)

/-- R62, R84: a load or store at a data address below $20 reads or writes the register of that number, and nothing
else but pc. Basis: the spec's decision D2 and general knowledge GK7 (log entry 20). -/
def Obligations.DataAddressesBelow20AreRegisters : Prop :=
  ∀ (r : Reg) (k : Word) (s : State), k.toNat < 32 →
    (∃ t, exec (.sts k r) s = .next t ∧ t.reg (BitVec.ofNat 5 k.toNat) = s.reg r ∧
      KeepsRegs [BitVec.ofNat 5 k.toNat] s t ∧ KeepsFlags [] s t ∧ KeepsRest s t) ∧
    (∃ t, exec (.lds r k) s = .next t ∧ t.reg r = s.reg (BitVec.ofNat 5 k.toNat) ∧ KeepsRegs [r] s t ∧
      KeepsFlags [] s t ∧ KeepsRest s t)

/-- R62, R84, R323, R324: IN and LDS at $20 + A, and OUT and STS at $20 + A, are the same access: the two reach states
that differ only in pc, whatever the SFR is. Basis: the spec's decision D2 (log entry 20). -/
def Obligations.SfrIsTheSameInBothSpaces : Prop :=
  ∀ (d : Reg) (a : BitVec 6) (s t : State),
    (exec (.in_ d a) s = .next t →
      exec (.lds d (a.setWidth 16 + 0x20)) s = .next { t with pc := pcMod s.part (s.pc + 2) }) ∧
    (exec (.out a d) s = .next t →
      exec (.sts (a.setWidth 16 + 0x20) d) s = .next { t with pc := pcMod s.part (s.pc + 2) })

/-- R293: a load or store through a pointer does what LDS or STS does at the address of its form, whatever that
address reaches; the post-increment forms then write the pointer, the pre-decrement forms have written it before.
Basis: the wrap of pointers is the spec's decision D22 (log entry 24). -/
def Obligations.PointerAccessIsDirectAccess : Prop :=
  ∀ (d : Reg) (q : BitVec 6) (s t : State),
    (exec (.lds d (s.pair 26)) s = .next t → exec (.ldX d) s = .next (onlyOneWord s t)) ∧
    (exec (.lds d (s.pair 28 + q.setWidth 16)) s = .next t → exec (.lddY d q) s = .next (onlyOneWord s t)) ∧
    (exec (.lds d (s.pair 30 + q.setWidth 16)) s = .next t → exec (.lddZ d q) s = .next (onlyOneWord s t)) ∧
    (exec (.sts (s.pair 26) d) s = .next t → exec (.stX d) s = .next (onlyOneWord s t)) ∧
    (exec (.sts (s.pair 28 + q.setWidth 16) d) s = .next t → exec (.stdY q d) s = .next (onlyOneWord s t)) ∧
    (exec (.sts (s.pair 30 + q.setWidth 16) d) s = .next t → exec (.stdZ q d) s = .next (onlyOneWord s t)) ∧
    ∀ (p : Reg) (ldInc ldDec stInc stDec : Instr),
      (p, ldInc, ldDec, stInc, stDec) ∈ [((26 : Reg), Instr.ldXInc d, Instr.ldXDec d, Instr.stXInc d, Instr.stXDec d),
        (28, .ldYInc d, .ldYDec d, .stYInc d, .stYDec d), (30, .ldZInc d, .ldZDec d, .stZInc d, .stZDec d)] →
      d ≠ p → d ≠ p + 1 →
      (exec (.lds d (s.pair p)) s = .next t →
        exec ldInc s = .next ((onlyOneWord s t).setPair p (s.pair p + 1))) ∧
      (exec (.lds d (s.pair p - 1)) (s.setPair p (s.pair p - 1)) = .next t → exec ldDec s = .next (onlyOneWord s t)) ∧
      (exec (.sts (s.pair p) d) s = .next t → exec stInc s = .next ((onlyOneWord s t).setPair p (s.pair p + 1))) ∧
      (exec (.sts (s.pair p - 1) d) (s.setPair p (s.pair p - 1)) = .next t → exec stDec s = .next (onlyOneWord s t))

/-- R293 (e): a form that updates a pointer stops where its data register is a byte of that pointer, on a part that
has the instruction. Basis: the spec's decision D23 and general knowledge GK18 (log entry 26). -/
def Obligations.DataRegisterInUpdatedPointerStops : Prop :=
  ∀ (i : Instr) (p d : Reg) (s : State), updatedPointer i = some (p, d) → d = p ∨ d = p + 1 →
    absentOn s.part i = false → exec i s = .fault (.undefinedOperandCombination s.pc (firstWord i))

/-- R62, R45, R72, R73: a read at an address nothing implements, at an SRAM byte nothing has written, or at an SFR the
part does not describe stops, and so do the writes but for the second: loads and stores of every form, IN, OUT, SBI,
CBI, SBIC, SBIS, PUSH and POP, each byte of a call, of a return and of the entry of an interrupt. Basis: the spec's
decisions D2, D9 and D24 (log entries 5, 11, 20). -/
def Obligations.UnreachableDataStops : Prop :=
  ∀ (d : Reg) (k : Word) (s : State),
    (32 ≤ k.toNat → 0x60 ≤ k.toNat → s.part.sramStart ≤ k.toNat → s.part.ramEnd < k.toNat →
      exec (.lds d k) s = .fault (.dataAddressUnimplemented k) ∧
      exec (.sts k d) s = .fault (.dataAddressUnimplemented k)) ∧
    (0x60 ≤ k.toNat → s.part.sramStart ≤ k.toNat → k.toNat ≤ s.part.ramEnd → s.sramByte k.toNat = none →
      exec (.lds d k) s = .fault (.unwrittenRead k)) ∧
    (dataPlace s.part k = .sfr → coreSfrAt s.part k.toNat = none → sfrKindAt s.part k.toNat = none →
      exec (.lds d k) s = .fault (.sfrUndescribed k.toNat) ∧ exec (.sts k d) s = .fault (.sfrUndescribed k.toNat)) ∧
    (∀ (q a : BitVec 6) (e : BitVec 5) (b : BitVec 3) (m : BitVec 12) (n : BitVec 22) (f : Fault),
      (∀ c ∈ readForms s d q a k e b, absentOn s.part c.1 = false → pointerFree c.1 → readFault s c.2 = some f →
        exec c.1 s = .fault f) ∧
      ∀ c ∈ writeForms s d q a k m n, absentOn s.part c.1 = false → pointerFree c.1 →
        writeFault s.part c.2 = some f → exec c.1 s = .fault f) ∧
    (∀ (j : Nat) (f : Fault), j < retBytes s.part → stackStores s j →
      writeFault s.part (spDown s.part s.sp j) = some f →
        (∀ i, isCall i = true → absentOn s.part i = false → exec i s = .fault f) ∧
        ∀ (r : State) (src : IrqSource) (n : Nat), r.stopped = false → r.watchdogExpired = false →
          s = r.receiveRequests → s.accepted = some (src, n) → step r = .fault f) ∧
    ∀ (j : Nat) (f : Fault), j < retBytes s.part → (∀ l < j, plainByte s (spUp s.part s.sp (l + 1)) ≠ none) →
      readFault s (spUp s.part s.sp (j + 1)) = some f → exec .ret s = .fault f ∧ exec .reti s = .fault f

/-- R66, R314 to R316: LPM reads the byte at Z, low byte at even addresses; the Z+ form increments Z and never RAMPZ.
Basis: the byte order is the spec's decision D4 and general knowledge GK8 (log entry 22). -/
def Obligations.LpmReadsTheByteAtZ : Prop :=
  ∀ (d : Reg) (s : State),
    loadsProgram .lpm 0 (s.pair 30).toNat (s.pair 30) s.rampz s ∧
    (s.part.hasLpmRd = true → loadsProgram (.lpmRd d) d (s.pair 30).toNat (s.pair 30) s.rampz s) ∧
    (s.part.hasLpmRd = true → d ≠ 30 → d ≠ 31 →
      loadsProgram (.lpmRdInc d) d (s.pair 30).toNat (s.pair 30 + 1) s.rampz s)

/-- R317 to R319: ELPM reads the byte at RAMPZ:Z, modulo the 2 * 2^`PC_BITS` bytes there can be; the Z+ form
increments the 24 bits of RAMPZ:Z. Basis: the spec's decisions D4, D21 and D28 and general knowledge GK19 (log entries
22, 24). -/
def Obligations.ElpmReadsTheByteAtRampzZ : Prop :=
  ∀ (d : Reg) (s : State), s.part.hasExt = true →
    let a := (s.rampz.toNat * 65536 + (s.pair 30).toNat) % (2 * pcSpan s.part)
    let up := if (s.pair 30).toNat = 65535 then s.rampz + 1 else s.rampz
    loadsProgram .elpm 0 a (s.pair 30) s.rampz s ∧ loadsProgram (.elpmRd d) d a (s.pair 30) s.rampz s ∧
    (d ≠ 30 → d ≠ 31 → loadsProgram (.elpmRdInc d) d a (s.pair 30 + 1) up s)

/-- R73, R321, R322: PUSH stores at SP and lowers it by 1, POP raises SP by 1 and loads from there, each as STS and
LDS store and load at that address: in SRAM, in the register area, at an SFR. Basis: the wrap of SP is the spec's
decision D22, the data map D2; the kinds of SFR are the model's form of IoBehaviour (log entries 11, 20, 24). -/
def Obligations.PushAndPopMoveTheStackPointer : Prop :=
  ∀ (d : Reg) (v : Byte) (s : State), s.part.hasStackOps = true →
    (dataPlace s.part s.sp = .sram → ∃ t, exec (.push d) s = .next t ∧ t.sramByte s.sp.toNat = some (s.reg d) ∧
      t.sp = spMod s.part (s.sp - 1) ∧ KeepsSram [s.sp] s t ∧ KeepsSfrs [] s t ∧ KeepsProgram s t ∧ KeepsRegs [] s t ∧
      KeepsFlags [] s t ∧ KeepsHidden s t ∧ KeepsQuiet s t ∧ KeepsControl s t) ∧
    (plainByte s (spMod s.part (s.sp + 1)) = some v → ∃ t, exec (.pop d) s = .next t ∧ t.reg d = v ∧
      t.sp = spMod s.part (s.sp + 1) ∧ KeepsRegs [d] s t ∧ KeepsFlags [] s t ∧ KeepsMemory s t ∧ KeepsHidden s t ∧
      KeepsQuiet s t ∧ KeepsControl s t) ∧
    (Memory.wf (some 0#8) s.sfr = true → storePlace s.part s.sp →
      ∃ t, exec (.push d) s = .next t ∧ pushedBytes [s.reg d] s t) ∧
    (∀ t, exec (.sts s.sp d) s = .next t →
      exec (.push d) s = .next { onlyOneWord s t with sp := spMod s.part (t.sp - 1) }) ∧
    ∀ u t, u = { s with sp := spMod s.part (s.sp + 1) } → exec (.lds d u.sp) u = .next t →
      exec (.pop d) s = .next (onlyOneWord s t)

/-- R321, R322: a POP after a PUSH loads the pushed byte and restores SP, for every two registers. Basis: a
consequence of the rules; the wrap of SP is the spec's decision D22 (log entry 24). -/
def Obligations.PopAfterPushGivesTheByte : Prop :=
  ∀ (r d : Reg) (s t : State), s.part.hasStackOps = true → dataPlace s.part s.sp = .sram →
    s.sp.toNat < spSpan s.part → exec (.push r) s = .next t →
      ∃ u, exec (.pop d) t = .next u ∧ u.reg d = s.reg r ∧ u.sp = s.sp ∧ KeepsRegs [d] s u ∧ KeepsFlags [] s u

/-- R34, R44, R72, R323, R324, R411: SREG, SP, EIND and RAMPZ as SFRs $3F, $3E/$3D, $3C, $3B; a write of SREG that
sets I starts `irq_delay` or not, a free choice; MCUCR, at the SFR where the part has it, as plain storage, pins or
flags by the part's description, and refused where it has none. Basis: the spec's decisions D3 and D26 and general
knowledge GK2; the kinds of SFR are the model's form of IoBehaviour, MCUCR's place and the 8-bit SP the model's
readings (log entries 10, 11, 12, 15, 20, 21, 37). -/
def Obligations.CoreRegistersAsSfrs : Prop :=
  ∀ (d : Reg) (s : State),
    (∃ t, exec (.in_ d 0x3F) s = .next t ∧ t.reg d = s.sreg ∧ KeepsRegs [d] s t ∧
      sfrReadFrame 0x5F s.sreg s t) ∧
    (∃ t, exec (.in_ d 0x3D) s = .next t ∧ t.reg d = lowByte s.sp ∧ KeepsRegs [d] s t) ∧
    (∃ t, exec (.in_ d 0x3E) s = .next t ∧ t.reg d = highByte s.sp ∧ KeepsRegs [d] s t) ∧
    (s.part.spWidth = .bits8 → s.sp.toNat < spSpan s.part →
      ∃ t, exec (.in_ d 0x3E) s = .next t ∧ t.reg d = 0 ∧ KeepsRegs [d] s t) ∧
    (∃ t, exec (.out 0x3F d) s = .next t ∧ t.sreg = s.reg d ∧ KeepsRegs [] s t ∧ KeepsMemory s t ∧ KeepsHidden s t ∧
      KeepsControl s t ∧ t.sp = s.sp ∧
      t.irqDelay = if flagI s.sreg = false ∧ (s.reg d).getLsbD 7 = true ∧ Config.sregWriteDelays s.draws = true
        then .set else s.irqDelay) ∧
    (∃ t, exec (.out 0x3D d) s = .next t ∧ lowByte t.sp = s.reg d ∧
      (s.part.spWidth = .bits16 → highByte t.sp = highByte s.sp) ∧ KeepsRegs [] s t ∧ KeepsFlags [] s t ∧
      KeepsMemory s t ∧ KeepsHidden s t ∧ KeepsControl s t ∧ t.irqDelay = s.irqDelay) ∧
    (∃ t, exec (.out 0x3E d) s = .next t ∧ lowByte t.sp = lowByte s.sp ∧
      highByte t.sp = (if s.part.spWidth = .bits16 then s.reg d else 0) ∧ KeepsRegs [] s t ∧ KeepsFlags [] s t ∧
      KeepsMemory s t ∧ KeepsHidden s t ∧ KeepsControl s t ∧ t.irqDelay = s.irqDelay) ∧
    (s.part.hasExt = true →
      (∃ t, exec (.in_ d 0x3C) s = .next t ∧ t.reg d = s.eind ∧ KeepsRegs [d] s t) ∧
      (∃ t, exec (.in_ d 0x3B) s = .next t ∧ t.reg d = s.rampz ∧ KeepsRegs [d] s t) ∧
      (∃ t, exec (.out 0x3C d) s = .next t ∧ t.eind = s.reg d ∧ t.rampz = s.rampz ∧ t.mcucr = s.mcucr ∧
        KeepsRegs [] s t ∧ KeepsFlags [] s t ∧ KeepsMemory s t ∧ KeepsHidden s t ∧ t.sp = s.sp) ∧
      (∃ t, exec (.out 0x3B d) s = .next t ∧ t.rampz = s.reg d ∧ t.eind = s.eind ∧ t.mcucr = s.mcucr ∧
        KeepsRegs [] s t ∧ KeepsFlags [] s t ∧ KeepsMemory s t ∧ KeepsHidden s t ∧ t.sp = s.sp)) ∧
    ∀ a : BitVec 6, archSfrAt s.part (sfrAddr a.toNat) = some .mcucr →
      (sfrKindAt s.part (sfrAddr a.toNat) = some .storage →
        (∃ t, exec (.in_ d a) s = .next t ∧ t.reg d = s.mcucr ∧ KeepsRegs [d] s t) ∧
        (∃ t, exec (.out a d) s = .next t ∧ t.mcucr = s.reg d ∧ t.rampz = s.rampz ∧ t.eind = s.eind ∧
          KeepsRegs [] s t ∧ KeepsFlags [] s t ∧ KeepsMemory s t ∧ KeepsHidden s t ∧ t.sp = s.sp)) ∧
      (sfrKindAt s.part (sfrAddr a.toNat) = none →
        exec (.in_ d a) s = .fault (.sfrUndescribed (sfrAddr a.toNat)) ∧
        exec (.out a d) s = .fault (.sfrUndescribed (sfrAddr a.toNat))) ∧
      (sfrKindAt s.part (sfrAddr a.toNat) = some .pins →
        (∃ t, exec (.in_ d a) s = .next t ∧ t.reg d = Config.pinByte s.draws ∧ KeepsControl s t ∧ KeepsRegs [d] s t) ∧
        (∃ t, exec (.out a d) s = .next t ∧ KeepsControl s t ∧ KeepsRegs [] s t ∧ KeepsFlags [] s t ∧
          KeepsMemory s t ∧ KeepsHidden s t ∧ t.sp = s.sp)) ∧
      (sfrKindAt s.part (sfrAddr a.toNat) = some .flags →
        (∃ t v, exec (.in_ d a) s = .next t ∧ v = (s.mcucr ||| Config.flagsRaised s.draws) ∧ t.reg d = v ∧
          t.mcucr = v ∧ t.rampz = s.rampz ∧ t.eind = s.eind ∧ KeepsRegs [d] s t ∧ KeepsFlags [] s t ∧
          KeepsMemory s t ∧ KeepsHidden s t ∧ t.sp = s.sp) ∧
        (∃ t, exec (.out a d) s = .next t ∧
          (∀ n < 8, t.mcucr.getLsbD n = (s.mcucr.getLsbD n && !(s.reg d).getLsbD n)) ∧ t.rampz = s.rampz ∧
          t.eind = s.eind ∧ KeepsRegs [] s t ∧ KeepsFlags [] s t ∧ KeepsMemory s t ∧ t.sp = s.sp))

/-- R63, R71, R72, R403, R456: IN gives the stored byte, or any byte at a pin register, or the flags with any the
device has raised; OUT stores the byte of a storage SFR, clears the flags it writes 1 to and withdraws their requests;
at an SFR with functions of its own, IN gives the value of the read function and each has the effects of its function;
each access is the next the observer outside sees. Basis: the kinds of SFR and the form of their functions are the
model's form of IoBehaviour (log entries 7, 11, 12). -/
def Obligations.InAndOutReachTheSfr : Prop :=
  ∀ (d : Reg) (a : BitVec 6) (s : State), Memory.wf (some 0#8) s.sfr = true →
    coreSfrAt s.part (sfrAddr a.toNat) = none →
    (sfrKindAt s.part (sfrAddr a.toNat) = some .storage →
      (∃ t, exec (.in_ d a) s = .next t ∧ t.reg d = s.sfrByte (sfrAddr a.toNat) ∧ KeepsRegs [d] s t ∧
        sfrReadFrame (sfrAddr a.toNat) (s.sfrByte (sfrAddr a.toNat)) s t ∧ KeepsSfrs [] s t ∧ t.draws = s.draws) ∧
      (∃ t, exec (.out a d) s = .next t ∧ t.sfrByte (sfrAddr a.toNat) = s.reg d ∧
        t.ioLog = s.ioLog ++ [.write (sfrAddr a.toNat) (s.reg d)] ∧ KeepsSfrs [sfrAddr a.toNat] s t ∧
        KeepsSram [] s t ∧ KeepsProgram s t ∧ KeepsRegs [] s t ∧ KeepsFlags [] s t ∧ KeepsHidden s t ∧
        KeepsControl s t ∧ t.sp = s.sp ∧ t.irqDelay = s.irqDelay ∧ t.draws = s.draws)) ∧
    (sfrKindAt s.part (sfrAddr a.toNat) = some .pins →
      (∃ t, exec (.in_ d a) s = .next t ∧ t.reg d = Config.pinByte s.draws ∧ KeepsRegs [d] s t ∧
        sfrReadFrame (sfrAddr a.toNat) (Config.pinByte s.draws) s t ∧ KeepsSfrs [] s t) ∧
      (∃ t, exec (.out a d) s = .next t ∧ t.ioLog = s.ioLog ++ [.write (sfrAddr a.toNat) (s.reg d)] ∧
        KeepsMemory s t ∧ KeepsRegs [] s t ∧ KeepsFlags [] s t ∧ KeepsHidden s t ∧ KeepsControl s t ∧ t.sp = s.sp ∧
        t.irqDelay = s.irqDelay ∧ t.draws = s.draws)) ∧
    (sfrKindAt s.part (sfrAddr a.toNat) = some .flags → archSfrAt s.part (sfrAddr a.toNat) = none →
      (∃ t v, exec (.in_ d a) s = .next t ∧ v = (s.sfrByte (sfrAddr a.toNat) ||| Config.flagsRaised s.draws) ∧
        t.reg d = v ∧ t.sfrByte (sfrAddr a.toNat) = v ∧ KeepsRegs [d] s t ∧ sfrReadFrame (sfrAddr a.toNat) v s t) ∧
      (∃ t, exec (.out a d) s = .next t ∧
        (∀ n < 8, (t.sfrByte (sfrAddr a.toNat)).getLsbD n =
          ((s.sfrByte (sfrAddr a.toNat)).getLsbD n && !(s.reg d).getLsbD n)) ∧
        (∀ n, n ∈ t.irqPending ↔ n ∈ s.irqPending ∧ ∀ src f, s.part.irqs[n]? = some src → src.flag = some f →
          f.addr = sfrAddr a.toNat → (s.reg d).getLsbD f.bit.toNat = false) ∧
        t.ioLog = s.ioLog ++ [.write (sfrAddr a.toNat) (s.reg d)] ∧ KeepsSfrs [sfrAddr a.toNat] s t ∧
        KeepsSram [] s t ∧ KeepsProgram s t ∧ KeepsRegs [] s t ∧ KeepsFlags [] s t ∧ KeepsControl s t ∧
        t.sp = s.sp ∧ t.sleeping = s.sleeping ∧ t.irqDelay = s.irqDelay ∧ t.part = s.part ∧ t.stopped = s.stopped ∧
        t.wdtCount = s.wdtCount ∧ t.draws = s.draws)) ∧
    ∀ b, sfrKindAt s.part (sfrAddr a.toNat) = some (.described b) →
      (∃ t, exec (.in_ d a) s = .next t ∧ t.reg d = s.ioValue 0 b.readValue ∧
        effectsOutcome 0 (b.onRead ++ [⟨.data (d.setWidth 16), b.readValue⟩]) s t ∧
        t.ioLog = s.ioLog ++ [.read (sfrAddr a.toNat) (s.ioValue 0 b.readValue)] ∧ Advances 1 s t) ∧
      (∃ t, exec (.out a d) s = .next t ∧ effectsOutcome (s.reg d) b.onWrite s t ∧
        t.ioLog = s.ioLog ++ [.write (sfrAddr a.toNat) (s.reg d)] ∧ Advances 1 s t)

-- System.

/-- R350 to R353: NOP only goes on; SLEEP sleeps where MCUCR holds a sleep state; WDR zeroes the count of a watchdog
that is present; BREAK stops a part with a debug system and is a NOP on others. Basis: the spec's decisions D12, D13
and D14 (log entries 10, 16, 27, 28). -/
def Obligations.SystemInstructionsTouchHiddenStateOnly : Prop :=
  ∀ s : State,
    (∃ t, exec .nop s = .next t ∧ t = { s with pc := pcMod s.part (s.pc + 1) }) ∧
    (∃ t, exec .sleep s = .next t ∧ t = { s with
      pc := pcMod s.part (s.pc + 1)
      sleeping := s.sleeping || s.part.sleepEnabled.getLsbD s.mcucr.toNat }) ∧
    (∃ t, exec .wdr s = .next t ∧ t = { s with
      pc := pcMod s.part (s.pc + 1)
      wdtCount := if s.part.watchdog = none then s.wdtCount else 0 }) ∧
    (s.part.hasOcd = false → ∃ t, exec .break_ s = .next t ∧ t = { s with pc := pcMod s.part (s.pc + 1) }) ∧
    (s.part.hasOcd = true → ∃ t, exec .break_ s = .next t ∧ t = { s with stopped := true })

/-- R320: SPM stops on every part that has it. Basis: the spec's decision D15 (log entry 26). -/
def Obligations.SpmStops : Prop := ∀ s : State, s.part.hasSpm = true → exec .spm s = .fault (.spmNotModelled s.pc)
end

