-- ==== Sys2Proof/Laws/Memory.lean ====
section
/-! SUPPORT. Memory as a canonical list: reading after writing, and that every memory operation keeps the canonical form
and the range of addresses. -/

namespace Sys2Proof.Machine

theorem Memory.risesFrom_mono {lo lo' : Nat} (h : lo' ≤ lo) :
    ∀ {m : Memory}, Memory.risesFrom lo m = true → Memory.risesFrom lo' m = true
  | [], _ => rfl
  | (k, _) :: _, hm => by
    simp only [Memory.risesFrom, Bool.and_eq_true, decide_eq_true_eq] at hm ⊢
    exact ⟨by omega, hm.2⟩

theorem Memory.rising_of_risesFrom {lo : Nat} : ∀ {m : Memory}, Memory.risesFrom lo m = true → Memory.rising m = true
  | [], _ => rfl
  | (k, _) :: _, hm => by
    simp only [Memory.risesFrom, Bool.and_eq_true] at hm
    exact hm.2

/-- An address at or below the bound is not listed. -/
theorem Memory.read_of_risesFrom {dflt : Option Byte} {lo a : Nat} :
    ∀ {m : Memory}, Memory.risesFrom lo m = true → a ≤ lo → Memory.read dflt m a = dflt
  | [], _, _ => rfl
  | (k, v) :: m, hm, ha => by
    simp only [Memory.risesFrom, Bool.and_eq_true, decide_eq_true_eq] at hm
    simp only [Memory.read, show ¬k = a by omega, if_false]
    exact Memory.read_of_risesFrom hm.2 (by omega)

theorem Memory.write_risesFrom {dflt : Option Byte} {lo a : Nat} {v : Byte} (ha : lo < a) :
    ∀ {m : Memory}, Memory.risesFrom lo m = true → Memory.risesFrom lo (Memory.write dflt m a v) = true
  | [], _ => by
    simp only [Memory.write]
    split <;> simp [Memory.risesFrom, ha]
  | (k, w) :: m, hm => by
    simp only [Memory.risesFrom, Bool.and_eq_true, decide_eq_true_eq] at hm
    simp only [Memory.write]
    split
    · split
      · simp [Memory.risesFrom, hm]
      · simp [Memory.risesFrom, *]
    · split
      · split
        · exact Memory.risesFrom_mono (by omega) hm.2
        · subst_vars; simp [Memory.risesFrom, hm]
      · simp only [Memory.risesFrom, Bool.and_eq_true, decide_eq_true_eq]
        exact ⟨hm.1, Memory.write_risesFrom (by omega) hm.2⟩

/-- A write keeps the addresses rising. -/
theorem Memory.write_rising {dflt : Option Byte} {a : Nat} {v : Byte} :
    ∀ {m : Memory}, Memory.rising m = true → Memory.rising (Memory.write dflt m a v) = true
  | [], _ => by
    simp only [Memory.write]
    split <;> rfl
  | (k, w) :: m, hm => by
    simp only [Memory.rising] at hm
    simp only [Memory.write]
    split
    · split
      · exact hm
      · simp [Memory.rising, Memory.risesFrom, *]
    · split
      · split
        · exact Memory.rising_of_risesFrom hm
        · subst_vars; exact hm
      · exact Memory.write_risesFrom (by omega) hm

/-- A write keeps every condition on entries that the written entry meets. -/
theorem Memory.write_all {dflt : Option Byte} {a : Nat} {v : Byte} {p : Host.Cell → Bool}
    (hp : ¬dflt = some v → p (a, v) = true) :
    ∀ {m : Memory}, m.all p = true → (Memory.write dflt m a v).all p = true
  | [], _ => by
    simp only [Memory.write]
    split
    · rfl
    · simp [hp ‹_›]
  | (k, w) :: m, hm => by
    simp only [List.all_cons, Bool.and_eq_true] at hm
    simp only [Memory.write]
    split
    · split
      · simp [hm]
      · simp [hm, hp ‹_›]
    · split
      · split
        · exact hm.2
        · simp [hm, hp ‹_›]
      · simp [hm.1, Memory.write_all hp hm.2]

/-- A write keeps the canonical form. -/
theorem Memory.write_wf {dflt : Option Byte} {m : Memory} {a : Nat} {v : Byte} (h : Memory.wf dflt m = true) :
    Memory.wf dflt (Memory.write dflt m a v) = true := by
  simp only [Memory.wf, Bool.and_eq_true] at h ⊢
  exact ⟨Memory.write_rising h.1, Memory.write_all (fun hv => by simp [hv]) h.2⟩

/-- A write inside a range keeps a memory inside it. -/
theorem Memory.write_within {dflt : Option Byte} {m : Memory} {a lo hi : Nat} {v : Byte}
    (h : Memory.within lo hi m = true) (h1 : lo ≤ a) (h2 : a < hi) :
    Memory.within lo hi (Memory.write dflt m a v) = true :=
  Memory.write_all (fun _ => by simp [h1, h2]) h

/-- A write leaves every other address as it was, whatever the form of the memory. -/
theorem Memory.read_write_ne {dflt : Option Byte} {a b : Nat} {v : Byte} (hab : b ≠ a) :
    ∀ {m : Memory}, Memory.read dflt (Memory.write dflt m a v) b = Memory.read dflt m b
  | [] => by
    simp only [Memory.write]
    split
    · rfl
    · simp [Memory.read, Ne.symm hab]
  | (k, w) :: m => by
    simp only [Memory.write]
    split
    · split
      · rfl
      · simp [Memory.read, Ne.symm hab]
    · split
      · split
        · subst_vars; simp [Memory.read, Ne.symm hab]
        · subst_vars; simp [Memory.read, Ne.symm hab]
      · simp only [Memory.read]
        split
        · rfl
        · exact Memory.read_write_ne hab

theorem Memory.read_write_self_of_risesFrom {dflt : Option Byte} {a : Nat} {v : Byte} {lo : Nat} :
    ∀ {m : Memory}, Memory.risesFrom lo m = true →
      Memory.read dflt (Memory.write dflt m a v) a = some v
  | [], _ => by
    simp only [Memory.write]
    split
    · simpa [Memory.read] using ‹_›
    · simp [Memory.read]
  | (k, w) :: m, hm => by
    simp only [Memory.risesFrom, Bool.and_eq_true, decide_eq_true_eq] at hm
    simp only [Memory.write]
    split
    · split
      · rename_i hv
        simp only [Memory.read, show ¬k = a by omega, if_false]
        rw [Memory.read_of_risesFrom hm.2 (by omega), hv]
      · simp [Memory.read]
    · split
      · split
        · rename_i hk hv
          rw [Memory.read_of_risesFrom hm.2 (by omega), hv]
        · simp [Memory.read]
      · simp only [Memory.read, show ¬k = a by omega, if_false]
        exact Memory.read_write_self_of_risesFrom hm.2

/-- A read after a write to the same address gives the byte written, in a memory of rising addresses. -/
theorem Memory.read_write_self {dflt : Option Byte} {a : Nat} {v : Byte} :
    ∀ {m : Memory}, Memory.rising m = true → Memory.read dflt (Memory.write dflt m a v) a = some v
  | [], _ => Memory.read_write_self_of_risesFrom (lo := 0) rfl
  | (k, w) :: m, hm => by
    simp only [Memory.rising] at hm
    simp only [Memory.write]
    split
    · split
      · rename_i hv
        simp only [Memory.read, show ¬k = a by omega, if_false]
        rw [Memory.read_of_risesFrom hm (by omega), hv]
      · simp [Memory.read]
    · split
      · split
        · rename_i hk hv
          rw [Memory.read_of_risesFrom hm (by omega), hv]
        · simp [Memory.read]
      · simp only [Memory.read, show ¬k = a by omega, if_false]
        exact Memory.read_write_self_of_risesFrom hm

/-- Where nothing is held by default, a read after a write gives the byte written, whatever the form. -/
theorem Memory.read_write_self_none {a : Nat} {v : Byte} :
    ∀ {m : Memory}, Memory.read none (Memory.write none m a v) a = some v
  | [] => by simp [Memory.write, Memory.read]
  | (k, w) :: m => by
    simp only [Memory.write]
    split
    · simp [Memory.read]
    · split
      · simp [Memory.read]
      · simp only [Memory.read, show ¬k = a by omega, if_false]
        exact Memory.read_write_self_none

/-- A listed byte is listed at its address, and lies in the range of the memory. -/
theorem Memory.read_within {lo hi a : Nat} {v : Byte} :
    ∀ {m : Memory}, Memory.within lo hi m = true → Memory.read none m a = some v → lo ≤ a ∧ a < hi
  | [], _, h => by simp [Memory.read] at h
  | (k, w) :: m, hm, h => by
    simp only [Memory.within, List.all_cons, Bool.and_eq_true, decide_eq_true_eq] at hm
    simp only [Memory.read] at h
    split at h
    · subst_vars; exact hm.1
    · exact Memory.read_within (m := m) (by simpa [Memory.within] using hm.2) h

end Sys2Proof.Machine
end

