-- ==== Sys2Proof/Laws/State.lean ====
section
/-! SUPPORT. For every update of the state, one lemma per field: what the field is after it. -/

namespace Sys2Proof.Machine

-- State.setReg

@[simp] theorem State.setReg_part (s : State) (d : Reg) (v : Byte) : (s.setReg d v).part = s.part := rfl
@[simp] theorem State.setReg_regs (s : State) (d : Reg) (v : Byte) : (s.setReg d v).regs = s.regs.set d.toNat v d.isLt :=
  rfl
@[simp] theorem State.setReg_pc (s : State) (d : Reg) (v : Byte) : (s.setReg d v).pc = s.pc := rfl
@[simp] theorem State.setReg_sreg (s : State) (d : Reg) (v : Byte) : (s.setReg d v).sreg = s.sreg := rfl
@[simp] theorem State.setReg_sp (s : State) (d : Reg) (v : Byte) : (s.setReg d v).sp = s.sp := rfl
@[simp] theorem State.setReg_rampz (s : State) (d : Reg) (v : Byte) : (s.setReg d v).rampz = s.rampz := rfl
@[simp] theorem State.setReg_eind (s : State) (d : Reg) (v : Byte) : (s.setReg d v).eind = s.eind := rfl
@[simp] theorem State.setReg_mcucr (s : State) (d : Reg) (v : Byte) : (s.setReg d v).mcucr = s.mcucr := rfl
@[simp] theorem State.setReg_sfr (s : State) (d : Reg) (v : Byte) : (s.setReg d v).sfr = s.sfr := rfl
@[simp] theorem State.setReg_sram (s : State) (d : Reg) (v : Byte) : (s.setReg d v).sram = s.sram := rfl
@[simp] theorem State.setReg_prog (s : State) (d : Reg) (v : Byte) : (s.setReg d v).prog = s.prog := rfl
@[simp] theorem State.setReg_irqPending (s : State) (d : Reg) (v : Byte) : (s.setReg d v).irqPending = s.irqPending :=
  rfl
@[simp] theorem State.setReg_irqDelay (s : State) (d : Reg) (v : Byte) : (s.setReg d v).irqDelay = s.irqDelay := rfl
@[simp] theorem State.setReg_sleeping (s : State) (d : Reg) (v : Byte) : (s.setReg d v).sleeping = s.sleeping := rfl
@[simp] theorem State.setReg_stopped (s : State) (d : Reg) (v : Byte) : (s.setReg d v).stopped = s.stopped := rfl
@[simp] theorem State.setReg_wdtCount (s : State) (d : Reg) (v : Byte) : (s.setReg d v).wdtCount = s.wdtCount := rfl
@[simp] theorem State.setReg_ioLog (s : State) (d : Reg) (v : Byte) : (s.setReg d v).ioLog = s.ioLog := rfl
@[simp] theorem State.setReg_draws (s : State) (d : Reg) (v : Byte) : (s.setReg d v).draws = s.draws := rfl

-- State.setPair

@[simp] theorem State.setPair_part (s : State) (d : Reg) (v : Word) : (s.setPair d v).part = s.part := rfl
@[simp] theorem State.setPair_pc (s : State) (d : Reg) (v : Word) : (s.setPair d v).pc = s.pc := rfl
@[simp] theorem State.setPair_sreg (s : State) (d : Reg) (v : Word) : (s.setPair d v).sreg = s.sreg := rfl
@[simp] theorem State.setPair_sp (s : State) (d : Reg) (v : Word) : (s.setPair d v).sp = s.sp := rfl
@[simp] theorem State.setPair_rampz (s : State) (d : Reg) (v : Word) : (s.setPair d v).rampz = s.rampz := rfl
@[simp] theorem State.setPair_eind (s : State) (d : Reg) (v : Word) : (s.setPair d v).eind = s.eind := rfl
@[simp] theorem State.setPair_mcucr (s : State) (d : Reg) (v : Word) : (s.setPair d v).mcucr = s.mcucr := rfl
@[simp] theorem State.setPair_sfr (s : State) (d : Reg) (v : Word) : (s.setPair d v).sfr = s.sfr := rfl
@[simp] theorem State.setPair_sram (s : State) (d : Reg) (v : Word) : (s.setPair d v).sram = s.sram := rfl
@[simp] theorem State.setPair_prog (s : State) (d : Reg) (v : Word) : (s.setPair d v).prog = s.prog := rfl
@[simp] theorem State.setPair_irqPending (s : State) (d : Reg) (v : Word) : (s.setPair d v).irqPending = s.irqPending :=
  rfl
@[simp] theorem State.setPair_irqDelay (s : State) (d : Reg) (v : Word) : (s.setPair d v).irqDelay = s.irqDelay := rfl
@[simp] theorem State.setPair_sleeping (s : State) (d : Reg) (v : Word) : (s.setPair d v).sleeping = s.sleeping := rfl
@[simp] theorem State.setPair_stopped (s : State) (d : Reg) (v : Word) : (s.setPair d v).stopped = s.stopped := rfl
@[simp] theorem State.setPair_wdtCount (s : State) (d : Reg) (v : Word) : (s.setPair d v).wdtCount = s.wdtCount := rfl
@[simp] theorem State.setPair_ioLog (s : State) (d : Reg) (v : Word) : (s.setPair d v).ioLog = s.ioLog := rfl
@[simp] theorem State.setPair_draws (s : State) (d : Reg) (v : Word) : (s.setPair d v).draws = s.draws := rfl

-- State.jump

@[simp] theorem State.jump_part (s : State) (a : PcWord) : (s.jump a).part = s.part := rfl
@[simp] theorem State.jump_regs (s : State) (a : PcWord) : (s.jump a).regs = s.regs := rfl
@[simp] theorem State.jump_pc (s : State) (a : PcWord) : (s.jump a).pc = pcMod s.part a := rfl
@[simp] theorem State.jump_sreg (s : State) (a : PcWord) : (s.jump a).sreg = s.sreg := rfl
@[simp] theorem State.jump_sp (s : State) (a : PcWord) : (s.jump a).sp = s.sp := rfl
@[simp] theorem State.jump_rampz (s : State) (a : PcWord) : (s.jump a).rampz = s.rampz := rfl
@[simp] theorem State.jump_eind (s : State) (a : PcWord) : (s.jump a).eind = s.eind := rfl
@[simp] theorem State.jump_mcucr (s : State) (a : PcWord) : (s.jump a).mcucr = s.mcucr := rfl
@[simp] theorem State.jump_sfr (s : State) (a : PcWord) : (s.jump a).sfr = s.sfr := rfl
@[simp] theorem State.jump_sram (s : State) (a : PcWord) : (s.jump a).sram = s.sram := rfl
@[simp] theorem State.jump_prog (s : State) (a : PcWord) : (s.jump a).prog = s.prog := rfl
@[simp] theorem State.jump_irqPending (s : State) (a : PcWord) : (s.jump a).irqPending = s.irqPending := rfl
@[simp] theorem State.jump_irqDelay (s : State) (a : PcWord) : (s.jump a).irqDelay = s.irqDelay := rfl
@[simp] theorem State.jump_sleeping (s : State) (a : PcWord) : (s.jump a).sleeping = s.sleeping := rfl
@[simp] theorem State.jump_stopped (s : State) (a : PcWord) : (s.jump a).stopped = s.stopped := rfl
@[simp] theorem State.jump_wdtCount (s : State) (a : PcWord) : (s.jump a).wdtCount = s.wdtCount := rfl
@[simp] theorem State.jump_ioLog (s : State) (a : PcWord) : (s.jump a).ioLog = s.ioLog := rfl
@[simp] theorem State.jump_draws (s : State) (a : PcWord) : (s.jump a).draws = s.draws := rfl

-- State.advance

@[simp] theorem State.advance_part (s : State) (n : PcWord) : (s.advance n).part = s.part := rfl
@[simp] theorem State.advance_regs (s : State) (n : PcWord) : (s.advance n).regs = s.regs := rfl
@[simp] theorem State.advance_pc (s : State) (n : PcWord) : (s.advance n).pc = pcMod s.part (s.pc + n) := rfl
@[simp] theorem State.advance_sreg (s : State) (n : PcWord) : (s.advance n).sreg = s.sreg := rfl
@[simp] theorem State.advance_sp (s : State) (n : PcWord) : (s.advance n).sp = s.sp := rfl
@[simp] theorem State.advance_rampz (s : State) (n : PcWord) : (s.advance n).rampz = s.rampz := rfl
@[simp] theorem State.advance_eind (s : State) (n : PcWord) : (s.advance n).eind = s.eind := rfl
@[simp] theorem State.advance_mcucr (s : State) (n : PcWord) : (s.advance n).mcucr = s.mcucr := rfl
@[simp] theorem State.advance_sfr (s : State) (n : PcWord) : (s.advance n).sfr = s.sfr := rfl
@[simp] theorem State.advance_sram (s : State) (n : PcWord) : (s.advance n).sram = s.sram := rfl
@[simp] theorem State.advance_prog (s : State) (n : PcWord) : (s.advance n).prog = s.prog := rfl
@[simp] theorem State.advance_irqPending (s : State) (n : PcWord) : (s.advance n).irqPending = s.irqPending := rfl
@[simp] theorem State.advance_irqDelay (s : State) (n : PcWord) : (s.advance n).irqDelay = s.irqDelay := rfl
@[simp] theorem State.advance_sleeping (s : State) (n : PcWord) : (s.advance n).sleeping = s.sleeping := rfl
@[simp] theorem State.advance_stopped (s : State) (n : PcWord) : (s.advance n).stopped = s.stopped := rfl
@[simp] theorem State.advance_wdtCount (s : State) (n : PcWord) : (s.advance n).wdtCount = s.wdtCount := rfl
@[simp] theorem State.advance_ioLog (s : State) (n : PcWord) : (s.advance n).ioLog = s.ioLog := rfl
@[simp] theorem State.advance_draws (s : State) (n : PcWord) : (s.advance n).draws = s.draws := rfl

-- State.setSp

@[simp] theorem State.setSp_part (s : State) (v : Word) : (s.setSp v).part = s.part := rfl
@[simp] theorem State.setSp_regs (s : State) (v : Word) : (s.setSp v).regs = s.regs := rfl
@[simp] theorem State.setSp_pc (s : State) (v : Word) : (s.setSp v).pc = s.pc := rfl
@[simp] theorem State.setSp_sreg (s : State) (v : Word) : (s.setSp v).sreg = s.sreg := rfl
@[simp] theorem State.setSp_sp (s : State) (v : Word) : (s.setSp v).sp = spMod s.part v := rfl
@[simp] theorem State.setSp_rampz (s : State) (v : Word) : (s.setSp v).rampz = s.rampz := rfl
@[simp] theorem State.setSp_eind (s : State) (v : Word) : (s.setSp v).eind = s.eind := rfl
@[simp] theorem State.setSp_mcucr (s : State) (v : Word) : (s.setSp v).mcucr = s.mcucr := rfl
@[simp] theorem State.setSp_sfr (s : State) (v : Word) : (s.setSp v).sfr = s.sfr := rfl
@[simp] theorem State.setSp_sram (s : State) (v : Word) : (s.setSp v).sram = s.sram := rfl
@[simp] theorem State.setSp_prog (s : State) (v : Word) : (s.setSp v).prog = s.prog := rfl
@[simp] theorem State.setSp_irqPending (s : State) (v : Word) : (s.setSp v).irqPending = s.irqPending := rfl
@[simp] theorem State.setSp_irqDelay (s : State) (v : Word) : (s.setSp v).irqDelay = s.irqDelay := rfl
@[simp] theorem State.setSp_sleeping (s : State) (v : Word) : (s.setSp v).sleeping = s.sleeping := rfl
@[simp] theorem State.setSp_stopped (s : State) (v : Word) : (s.setSp v).stopped = s.stopped := rfl
@[simp] theorem State.setSp_wdtCount (s : State) (v : Word) : (s.setSp v).wdtCount = s.wdtCount := rfl
@[simp] theorem State.setSp_ioLog (s : State) (v : Word) : (s.setSp v).ioLog = s.ioLog := rfl
@[simp] theorem State.setSp_draws (s : State) (v : Word) : (s.setSp v).draws = s.draws := rfl

-- State.setSreg

@[simp] theorem State.setSreg_part (s : State) (v : Byte) : (s.setSreg v).part = s.part := rfl
@[simp] theorem State.setSreg_regs (s : State) (v : Byte) : (s.setSreg v).regs = s.regs := rfl
@[simp] theorem State.setSreg_pc (s : State) (v : Byte) : (s.setSreg v).pc = s.pc := rfl
@[simp] theorem State.setSreg_sreg (s : State) (v : Byte) : (s.setSreg v).sreg = v := rfl
@[simp] theorem State.setSreg_sp (s : State) (v : Byte) : (s.setSreg v).sp = s.sp := rfl
@[simp] theorem State.setSreg_rampz (s : State) (v : Byte) : (s.setSreg v).rampz = s.rampz := rfl
@[simp] theorem State.setSreg_eind (s : State) (v : Byte) : (s.setSreg v).eind = s.eind := rfl
@[simp] theorem State.setSreg_mcucr (s : State) (v : Byte) : (s.setSreg v).mcucr = s.mcucr := rfl
@[simp] theorem State.setSreg_sfr (s : State) (v : Byte) : (s.setSreg v).sfr = s.sfr := rfl
@[simp] theorem State.setSreg_sram (s : State) (v : Byte) : (s.setSreg v).sram = s.sram := rfl
@[simp] theorem State.setSreg_prog (s : State) (v : Byte) : (s.setSreg v).prog = s.prog := rfl
@[simp] theorem State.setSreg_irqPending (s : State) (v : Byte) : (s.setSreg v).irqPending = s.irqPending := rfl
@[simp] theorem State.setSreg_irqDelay (s : State) (v : Byte) : (s.setSreg v).irqDelay = s.irqDelay := rfl
@[simp] theorem State.setSreg_sleeping (s : State) (v : Byte) : (s.setSreg v).sleeping = s.sleeping := rfl
@[simp] theorem State.setSreg_stopped (s : State) (v : Byte) : (s.setSreg v).stopped = s.stopped := rfl
@[simp] theorem State.setSreg_wdtCount (s : State) (v : Byte) : (s.setSreg v).wdtCount = s.wdtCount := rfl
@[simp] theorem State.setSreg_ioLog (s : State) (v : Byte) : (s.setSreg v).ioLog = s.ioLog := rfl
@[simp] theorem State.setSreg_draws (s : State) (v : Byte) : (s.setSreg v).draws = s.draws := rfl

-- State.setSfrByte

@[simp] theorem State.setSfrByte_part (s : State) (a : Nat) (v : Byte) : (s.setSfrByte a v).part = s.part := rfl
@[simp] theorem State.setSfrByte_regs (s : State) (a : Nat) (v : Byte) : (s.setSfrByte a v).regs = s.regs := rfl
@[simp] theorem State.setSfrByte_pc (s : State) (a : Nat) (v : Byte) : (s.setSfrByte a v).pc = s.pc := rfl
@[simp] theorem State.setSfrByte_sreg (s : State) (a : Nat) (v : Byte) : (s.setSfrByte a v).sreg = s.sreg := rfl
@[simp] theorem State.setSfrByte_sp (s : State) (a : Nat) (v : Byte) : (s.setSfrByte a v).sp = s.sp := rfl
@[simp] theorem State.setSfrByte_rampz (s : State) (a : Nat) (v : Byte) : (s.setSfrByte a v).rampz = s.rampz := rfl
@[simp] theorem State.setSfrByte_eind (s : State) (a : Nat) (v : Byte) : (s.setSfrByte a v).eind = s.eind := rfl
@[simp] theorem State.setSfrByte_mcucr (s : State) (a : Nat) (v : Byte) : (s.setSfrByte a v).mcucr = s.mcucr := rfl
@[simp] theorem State.setSfrByte_sfr (s : State) (a : Nat) (v : Byte) : (s.setSfrByte a v).sfr = Memory.write (some 0#8) s.sfr a v :=
  rfl
@[simp] theorem State.setSfrByte_sram (s : State) (a : Nat) (v : Byte) : (s.setSfrByte a v).sram = s.sram := rfl
@[simp] theorem State.setSfrByte_prog (s : State) (a : Nat) (v : Byte) : (s.setSfrByte a v).prog = s.prog := rfl
@[simp] theorem State.setSfrByte_irqPending (s : State) (a : Nat) (v : Byte) : (s.setSfrByte a v).irqPending = s.irqPending :=
  rfl
@[simp] theorem State.setSfrByte_irqDelay (s : State) (a : Nat) (v : Byte) : (s.setSfrByte a v).irqDelay = s.irqDelay :=
  rfl
@[simp] theorem State.setSfrByte_sleeping (s : State) (a : Nat) (v : Byte) : (s.setSfrByte a v).sleeping = s.sleeping :=
  rfl
@[simp] theorem State.setSfrByte_stopped (s : State) (a : Nat) (v : Byte) : (s.setSfrByte a v).stopped = s.stopped :=
  rfl
@[simp] theorem State.setSfrByte_wdtCount (s : State) (a : Nat) (v : Byte) : (s.setSfrByte a v).wdtCount = s.wdtCount :=
  rfl
@[simp] theorem State.setSfrByte_ioLog (s : State) (a : Nat) (v : Byte) : (s.setSfrByte a v).ioLog = s.ioLog := rfl
@[simp] theorem State.setSfrByte_draws (s : State) (a : Nat) (v : Byte) : (s.setSfrByte a v).draws = s.draws := rfl

-- State.observe

@[simp] theorem State.observe_part (s : State) (e : IoEvent) : (s.observe e).part = s.part := rfl
@[simp] theorem State.observe_regs (s : State) (e : IoEvent) : (s.observe e).regs = s.regs := rfl
@[simp] theorem State.observe_pc (s : State) (e : IoEvent) : (s.observe e).pc = s.pc := rfl
@[simp] theorem State.observe_sreg (s : State) (e : IoEvent) : (s.observe e).sreg = s.sreg := rfl
@[simp] theorem State.observe_sp (s : State) (e : IoEvent) : (s.observe e).sp = s.sp := rfl
@[simp] theorem State.observe_rampz (s : State) (e : IoEvent) : (s.observe e).rampz = s.rampz := rfl
@[simp] theorem State.observe_eind (s : State) (e : IoEvent) : (s.observe e).eind = s.eind := rfl
@[simp] theorem State.observe_mcucr (s : State) (e : IoEvent) : (s.observe e).mcucr = s.mcucr := rfl
@[simp] theorem State.observe_sfr (s : State) (e : IoEvent) : (s.observe e).sfr = s.sfr := rfl
@[simp] theorem State.observe_sram (s : State) (e : IoEvent) : (s.observe e).sram = s.sram := rfl
@[simp] theorem State.observe_prog (s : State) (e : IoEvent) : (s.observe e).prog = s.prog := rfl
@[simp] theorem State.observe_irqPending (s : State) (e : IoEvent) : (s.observe e).irqPending = s.irqPending := rfl
@[simp] theorem State.observe_irqDelay (s : State) (e : IoEvent) : (s.observe e).irqDelay = s.irqDelay := rfl
@[simp] theorem State.observe_sleeping (s : State) (e : IoEvent) : (s.observe e).sleeping = s.sleeping := rfl
@[simp] theorem State.observe_stopped (s : State) (e : IoEvent) : (s.observe e).stopped = s.stopped := rfl
@[simp] theorem State.observe_wdtCount (s : State) (e : IoEvent) : (s.observe e).wdtCount = s.wdtCount := rfl
@[simp] theorem State.observe_ioLog (s : State) (e : IoEvent) : (s.observe e).ioLog = s.ioLog ++ [e] := rfl
@[simp] theorem State.observe_draws (s : State) (e : IoEvent) : (s.observe e).draws = s.draws := rfl

-- State.drawn

@[simp] theorem State.drawn_part (s : State) : (s.drawn).part = s.part := rfl
@[simp] theorem State.drawn_regs (s : State) : (s.drawn).regs = s.regs := rfl
@[simp] theorem State.drawn_pc (s : State) : (s.drawn).pc = s.pc := rfl
@[simp] theorem State.drawn_sreg (s : State) : (s.drawn).sreg = s.sreg := rfl
@[simp] theorem State.drawn_sp (s : State) : (s.drawn).sp = s.sp := rfl
@[simp] theorem State.drawn_rampz (s : State) : (s.drawn).rampz = s.rampz := rfl
@[simp] theorem State.drawn_eind (s : State) : (s.drawn).eind = s.eind := rfl
@[simp] theorem State.drawn_mcucr (s : State) : (s.drawn).mcucr = s.mcucr := rfl
@[simp] theorem State.drawn_sfr (s : State) : (s.drawn).sfr = s.sfr := rfl
@[simp] theorem State.drawn_sram (s : State) : (s.drawn).sram = s.sram := rfl
@[simp] theorem State.drawn_prog (s : State) : (s.drawn).prog = s.prog := rfl
@[simp] theorem State.drawn_irqPending (s : State) : (s.drawn).irqPending = s.irqPending := rfl
@[simp] theorem State.drawn_irqDelay (s : State) : (s.drawn).irqDelay = s.irqDelay := rfl
@[simp] theorem State.drawn_sleeping (s : State) : (s.drawn).sleeping = s.sleeping := rfl
@[simp] theorem State.drawn_stopped (s : State) : (s.drawn).stopped = s.stopped := rfl
@[simp] theorem State.drawn_wdtCount (s : State) : (s.drawn).wdtCount = s.wdtCount := rfl
@[simp] theorem State.drawn_ioLog (s : State) : (s.drawn).ioLog = s.ioLog := rfl
@[simp] theorem State.drawn_draws (s : State) : (s.drawn).draws = s.draws + 1 := rfl

-- State.withdraw

@[simp] theorem State.withdraw_part (s : State) (a : Nat) (v : Byte) : (s.withdraw a v).part = s.part := rfl
@[simp] theorem State.withdraw_regs (s : State) (a : Nat) (v : Byte) : (s.withdraw a v).regs = s.regs := rfl
@[simp] theorem State.withdraw_pc (s : State) (a : Nat) (v : Byte) : (s.withdraw a v).pc = s.pc := rfl
@[simp] theorem State.withdraw_sreg (s : State) (a : Nat) (v : Byte) : (s.withdraw a v).sreg = s.sreg := rfl
@[simp] theorem State.withdraw_sp (s : State) (a : Nat) (v : Byte) : (s.withdraw a v).sp = s.sp := rfl
@[simp] theorem State.withdraw_rampz (s : State) (a : Nat) (v : Byte) : (s.withdraw a v).rampz = s.rampz := rfl
@[simp] theorem State.withdraw_eind (s : State) (a : Nat) (v : Byte) : (s.withdraw a v).eind = s.eind := rfl
@[simp] theorem State.withdraw_mcucr (s : State) (a : Nat) (v : Byte) : (s.withdraw a v).mcucr = s.mcucr := rfl
@[simp] theorem State.withdraw_sfr (s : State) (a : Nat) (v : Byte) : (s.withdraw a v).sfr = s.sfr := rfl
@[simp] theorem State.withdraw_sram (s : State) (a : Nat) (v : Byte) : (s.withdraw a v).sram = s.sram := rfl
@[simp] theorem State.withdraw_prog (s : State) (a : Nat) (v : Byte) : (s.withdraw a v).prog = s.prog := rfl
@[simp] theorem State.withdraw_irqDelay (s : State) (a : Nat) (v : Byte) : (s.withdraw a v).irqDelay = s.irqDelay :=
  rfl
@[simp] theorem State.withdraw_sleeping (s : State) (a : Nat) (v : Byte) : (s.withdraw a v).sleeping = s.sleeping :=
  rfl
@[simp] theorem State.withdraw_stopped (s : State) (a : Nat) (v : Byte) : (s.withdraw a v).stopped = s.stopped := rfl
@[simp] theorem State.withdraw_wdtCount (s : State) (a : Nat) (v : Byte) : (s.withdraw a v).wdtCount = s.wdtCount :=
  rfl
@[simp] theorem State.withdraw_ioLog (s : State) (a : Nat) (v : Byte) : (s.withdraw a v).ioLog = s.ioLog := rfl
@[simp] theorem State.withdraw_draws (s : State) (a : Nat) (v : Byte) : (s.withdraw a v).draws = s.draws := rfl

-- State.loadWord

@[simp] theorem State.loadWord_part (s : State) (a : Nat) (w : Word) : (s.loadWord a w).part = s.part := rfl
@[simp] theorem State.loadWord_regs (s : State) (a : Nat) (w : Word) : (s.loadWord a w).regs = s.regs := rfl
@[simp] theorem State.loadWord_pc (s : State) (a : Nat) (w : Word) : (s.loadWord a w).pc = s.pc := rfl
@[simp] theorem State.loadWord_sreg (s : State) (a : Nat) (w : Word) : (s.loadWord a w).sreg = s.sreg := rfl
@[simp] theorem State.loadWord_sp (s : State) (a : Nat) (w : Word) : (s.loadWord a w).sp = s.sp := rfl
@[simp] theorem State.loadWord_rampz (s : State) (a : Nat) (w : Word) : (s.loadWord a w).rampz = s.rampz := rfl
@[simp] theorem State.loadWord_eind (s : State) (a : Nat) (w : Word) : (s.loadWord a w).eind = s.eind := rfl
@[simp] theorem State.loadWord_mcucr (s : State) (a : Nat) (w : Word) : (s.loadWord a w).mcucr = s.mcucr := rfl
@[simp] theorem State.loadWord_sfr (s : State) (a : Nat) (w : Word) : (s.loadWord a w).sfr = s.sfr := rfl
@[simp] theorem State.loadWord_sram (s : State) (a : Nat) (w : Word) : (s.loadWord a w).sram = s.sram := rfl
@[simp] theorem State.loadWord_irqPending (s : State) (a : Nat) (w : Word) : (s.loadWord a w).irqPending = s.irqPending :=
  rfl
@[simp] theorem State.loadWord_irqDelay (s : State) (a : Nat) (w : Word) : (s.loadWord a w).irqDelay = s.irqDelay :=
  rfl
@[simp] theorem State.loadWord_sleeping (s : State) (a : Nat) (w : Word) : (s.loadWord a w).sleeping = s.sleeping :=
  rfl
@[simp] theorem State.loadWord_stopped (s : State) (a : Nat) (w : Word) : (s.loadWord a w).stopped = s.stopped := rfl
@[simp] theorem State.loadWord_wdtCount (s : State) (a : Nat) (w : Word) : (s.loadWord a w).wdtCount = s.wdtCount :=
  rfl
@[simp] theorem State.loadWord_ioLog (s : State) (a : Nat) (w : Word) : (s.loadWord a w).ioLog = s.ioLog := rfl
@[simp] theorem State.loadWord_draws (s : State) (a : Nat) (w : Word) : (s.loadWord a w).draws = s.draws := rfl

-- State.result

@[simp] theorem State.result_part (s : State) (d : Reg) (v sr : Byte) : (s.result d v sr).part = s.part := rfl
@[simp] theorem State.result_regs (s : State) (d : Reg) (v sr : Byte) : (s.result d v sr).regs = (s.setReg d v).regs :=
  rfl
@[simp] theorem State.result_pc (s : State) (d : Reg) (v sr : Byte) : (s.result d v sr).pc = pcMod s.part (s.pc + 1) :=
  rfl
@[simp] theorem State.result_sreg (s : State) (d : Reg) (v sr : Byte) : (s.result d v sr).sreg = sr := rfl
@[simp] theorem State.result_sp (s : State) (d : Reg) (v sr : Byte) : (s.result d v sr).sp = s.sp := rfl
@[simp] theorem State.result_rampz (s : State) (d : Reg) (v sr : Byte) : (s.result d v sr).rampz = s.rampz := rfl
@[simp] theorem State.result_eind (s : State) (d : Reg) (v sr : Byte) : (s.result d v sr).eind = s.eind := rfl
@[simp] theorem State.result_mcucr (s : State) (d : Reg) (v sr : Byte) : (s.result d v sr).mcucr = s.mcucr := rfl
@[simp] theorem State.result_sfr (s : State) (d : Reg) (v sr : Byte) : (s.result d v sr).sfr = s.sfr := rfl
@[simp] theorem State.result_sram (s : State) (d : Reg) (v sr : Byte) : (s.result d v sr).sram = s.sram := rfl
@[simp] theorem State.result_prog (s : State) (d : Reg) (v sr : Byte) : (s.result d v sr).prog = s.prog := rfl
@[simp] theorem State.result_irqPending (s : State) (d : Reg) (v sr : Byte) : (s.result d v sr).irqPending = s.irqPending :=
  rfl
@[simp] theorem State.result_irqDelay (s : State) (d : Reg) (v sr : Byte) : (s.result d v sr).irqDelay = s.irqDelay :=
  rfl
@[simp] theorem State.result_sleeping (s : State) (d : Reg) (v sr : Byte) : (s.result d v sr).sleeping = s.sleeping :=
  rfl
@[simp] theorem State.result_stopped (s : State) (d : Reg) (v sr : Byte) : (s.result d v sr).stopped = s.stopped := rfl
@[simp] theorem State.result_wdtCount (s : State) (d : Reg) (v sr : Byte) : (s.result d v sr).wdtCount = s.wdtCount :=
  rfl
@[simp] theorem State.result_ioLog (s : State) (d : Reg) (v sr : Byte) : (s.result d v sr).ioLog = s.ioLog := rfl
@[simp] theorem State.result_draws (s : State) (d : Reg) (v sr : Byte) : (s.result d v sr).draws = s.draws := rfl

-- State.flagsOnly

@[simp] theorem State.flagsOnly_part (s : State) (sr : Byte) : (s.flagsOnly sr).part = s.part := rfl
@[simp] theorem State.flagsOnly_regs (s : State) (sr : Byte) : (s.flagsOnly sr).regs = s.regs := rfl
@[simp] theorem State.flagsOnly_pc (s : State) (sr : Byte) : (s.flagsOnly sr).pc = pcMod s.part (s.pc + 1) := rfl
@[simp] theorem State.flagsOnly_sreg (s : State) (sr : Byte) : (s.flagsOnly sr).sreg = sr := rfl
@[simp] theorem State.flagsOnly_sp (s : State) (sr : Byte) : (s.flagsOnly sr).sp = s.sp := rfl
@[simp] theorem State.flagsOnly_rampz (s : State) (sr : Byte) : (s.flagsOnly sr).rampz = s.rampz := rfl
@[simp] theorem State.flagsOnly_eind (s : State) (sr : Byte) : (s.flagsOnly sr).eind = s.eind := rfl
@[simp] theorem State.flagsOnly_mcucr (s : State) (sr : Byte) : (s.flagsOnly sr).mcucr = s.mcucr := rfl
@[simp] theorem State.flagsOnly_sfr (s : State) (sr : Byte) : (s.flagsOnly sr).sfr = s.sfr := rfl
@[simp] theorem State.flagsOnly_sram (s : State) (sr : Byte) : (s.flagsOnly sr).sram = s.sram := rfl
@[simp] theorem State.flagsOnly_prog (s : State) (sr : Byte) : (s.flagsOnly sr).prog = s.prog := rfl
@[simp] theorem State.flagsOnly_irqPending (s : State) (sr : Byte) : (s.flagsOnly sr).irqPending = s.irqPending := rfl
@[simp] theorem State.flagsOnly_irqDelay (s : State) (sr : Byte) : (s.flagsOnly sr).irqDelay = s.irqDelay := rfl
@[simp] theorem State.flagsOnly_sleeping (s : State) (sr : Byte) : (s.flagsOnly sr).sleeping = s.sleeping := rfl
@[simp] theorem State.flagsOnly_stopped (s : State) (sr : Byte) : (s.flagsOnly sr).stopped = s.stopped := rfl
@[simp] theorem State.flagsOnly_wdtCount (s : State) (sr : Byte) : (s.flagsOnly sr).wdtCount = s.wdtCount := rfl
@[simp] theorem State.flagsOnly_ioLog (s : State) (sr : Byte) : (s.flagsOnly sr).ioLog = s.ioLog := rfl
@[simp] theorem State.flagsOnly_draws (s : State) (sr : Byte) : (s.flagsOnly sr).draws = s.draws := rfl

-- State.resultPair

@[simp] theorem State.resultPair_part (s : State) (d : Reg) (v : Word) (sr : Byte) : (s.resultPair d v sr).part = s.part :=
  rfl
@[simp] theorem State.resultPair_regs (s : State) (d : Reg) (v : Word) (sr : Byte) : (s.resultPair d v sr).regs = (s.setPair d v).regs :=
  rfl
@[simp] theorem State.resultPair_pc (s : State) (d : Reg) (v : Word) (sr : Byte) : (s.resultPair d v sr).pc = pcMod s.part (s.pc + 1) :=
  rfl
@[simp] theorem State.resultPair_sreg (s : State) (d : Reg) (v : Word) (sr : Byte) : (s.resultPair d v sr).sreg = sr :=
  rfl
@[simp] theorem State.resultPair_sp (s : State) (d : Reg) (v : Word) (sr : Byte) : (s.resultPair d v sr).sp = s.sp :=
  rfl
@[simp] theorem State.resultPair_rampz (s : State) (d : Reg) (v : Word) (sr : Byte) : (s.resultPair d v sr).rampz = s.rampz :=
  rfl
@[simp] theorem State.resultPair_eind (s : State) (d : Reg) (v : Word) (sr : Byte) : (s.resultPair d v sr).eind = s.eind :=
  rfl
@[simp] theorem State.resultPair_mcucr (s : State) (d : Reg) (v : Word) (sr : Byte) : (s.resultPair d v sr).mcucr = s.mcucr :=
  rfl
@[simp] theorem State.resultPair_sfr (s : State) (d : Reg) (v : Word) (sr : Byte) : (s.resultPair d v sr).sfr = s.sfr :=
  rfl
@[simp] theorem State.resultPair_sram (s : State) (d : Reg) (v : Word) (sr : Byte) : (s.resultPair d v sr).sram = s.sram :=
  rfl
@[simp] theorem State.resultPair_prog (s : State) (d : Reg) (v : Word) (sr : Byte) : (s.resultPair d v sr).prog = s.prog :=
  rfl
@[simp] theorem State.resultPair_irqPending (s : State) (d : Reg) (v : Word) (sr : Byte) : (s.resultPair d v sr).irqPending = s.irqPending :=
  rfl
@[simp] theorem State.resultPair_irqDelay (s : State) (d : Reg) (v : Word) (sr : Byte) : (s.resultPair d v sr).irqDelay = s.irqDelay :=
  rfl
@[simp] theorem State.resultPair_sleeping (s : State) (d : Reg) (v : Word) (sr : Byte) : (s.resultPair d v sr).sleeping = s.sleeping :=
  rfl
@[simp] theorem State.resultPair_stopped (s : State) (d : Reg) (v : Word) (sr : Byte) : (s.resultPair d v sr).stopped = s.stopped :=
  rfl
@[simp] theorem State.resultPair_wdtCount (s : State) (d : Reg) (v : Word) (sr : Byte) : (s.resultPair d v sr).wdtCount = s.wdtCount :=
  rfl
@[simp] theorem State.resultPair_ioLog (s : State) (d : Reg) (v : Word) (sr : Byte) : (s.resultPair d v sr).ioLog = s.ioLog :=
  rfl
@[simp] theorem State.resultPair_draws (s : State) (d : Reg) (v : Word) (sr : Byte) : (s.resultPair d v sr).draws = s.draws :=
  rfl

-- State.setFlag

@[simp] theorem State.setFlag_part (s : State) (b : BitVec 3) : (s.setFlag b).part = s.part := rfl
@[simp] theorem State.setFlag_regs (s : State) (b : BitVec 3) : (s.setFlag b).regs = s.regs := rfl
@[simp] theorem State.setFlag_pc (s : State) (b : BitVec 3) : (s.setFlag b).pc = pcMod s.part (s.pc + 1) := rfl
@[simp] theorem State.setFlag_sreg (s : State) (b : BitVec 3) : (s.setFlag b).sreg = sregWithBit s.sreg b true := rfl
@[simp] theorem State.setFlag_sp (s : State) (b : BitVec 3) : (s.setFlag b).sp = s.sp := rfl
@[simp] theorem State.setFlag_rampz (s : State) (b : BitVec 3) : (s.setFlag b).rampz = s.rampz := rfl
@[simp] theorem State.setFlag_eind (s : State) (b : BitVec 3) : (s.setFlag b).eind = s.eind := rfl
@[simp] theorem State.setFlag_mcucr (s : State) (b : BitVec 3) : (s.setFlag b).mcucr = s.mcucr := rfl
@[simp] theorem State.setFlag_sfr (s : State) (b : BitVec 3) : (s.setFlag b).sfr = s.sfr := rfl
@[simp] theorem State.setFlag_sram (s : State) (b : BitVec 3) : (s.setFlag b).sram = s.sram := rfl
@[simp] theorem State.setFlag_prog (s : State) (b : BitVec 3) : (s.setFlag b).prog = s.prog := rfl
@[simp] theorem State.setFlag_irqPending (s : State) (b : BitVec 3) : (s.setFlag b).irqPending = s.irqPending := rfl
@[simp] theorem State.setFlag_irqDelay (s : State) (b : BitVec 3) :
    (s.setFlag b).irqDelay = if b = 7#3 then .set else s.irqDelay := rfl
@[simp] theorem State.setFlag_sleeping (s : State) (b : BitVec 3) : (s.setFlag b).sleeping = s.sleeping := rfl
@[simp] theorem State.setFlag_stopped (s : State) (b : BitVec 3) : (s.setFlag b).stopped = s.stopped := rfl
@[simp] theorem State.setFlag_wdtCount (s : State) (b : BitVec 3) : (s.setFlag b).wdtCount = s.wdtCount := rfl
@[simp] theorem State.setFlag_ioLog (s : State) (b : BitVec 3) : (s.setFlag b).ioLog = s.ioLog := rfl
@[simp] theorem State.setFlag_draws (s : State) (b : BitVec 3) : (s.setFlag b).draws = s.draws := rfl

-- State.clearFlag

@[simp] theorem State.clearFlag_part (s : State) (b : BitVec 3) : (s.clearFlag b).part = s.part := rfl
@[simp] theorem State.clearFlag_regs (s : State) (b : BitVec 3) : (s.clearFlag b).regs = s.regs := rfl
@[simp] theorem State.clearFlag_pc (s : State) (b : BitVec 3) : (s.clearFlag b).pc = pcMod s.part (s.pc + 1) := rfl
@[simp] theorem State.clearFlag_sreg (s : State) (b : BitVec 3) : (s.clearFlag b).sreg = sregWithBit s.sreg b false :=
  rfl
@[simp] theorem State.clearFlag_sp (s : State) (b : BitVec 3) : (s.clearFlag b).sp = s.sp := rfl
@[simp] theorem State.clearFlag_rampz (s : State) (b : BitVec 3) : (s.clearFlag b).rampz = s.rampz := rfl
@[simp] theorem State.clearFlag_eind (s : State) (b : BitVec 3) : (s.clearFlag b).eind = s.eind := rfl
@[simp] theorem State.clearFlag_mcucr (s : State) (b : BitVec 3) : (s.clearFlag b).mcucr = s.mcucr := rfl
@[simp] theorem State.clearFlag_sfr (s : State) (b : BitVec 3) : (s.clearFlag b).sfr = s.sfr := rfl
@[simp] theorem State.clearFlag_sram (s : State) (b : BitVec 3) : (s.clearFlag b).sram = s.sram := rfl
@[simp] theorem State.clearFlag_prog (s : State) (b : BitVec 3) : (s.clearFlag b).prog = s.prog := rfl
@[simp] theorem State.clearFlag_irqPending (s : State) (b : BitVec 3) : (s.clearFlag b).irqPending = s.irqPending :=
  rfl
@[simp] theorem State.clearFlag_irqDelay (s : State) (b : BitVec 3) : (s.clearFlag b).irqDelay = s.irqDelay := rfl
@[simp] theorem State.clearFlag_sleeping (s : State) (b : BitVec 3) : (s.clearFlag b).sleeping = s.sleeping := rfl
@[simp] theorem State.clearFlag_stopped (s : State) (b : BitVec 3) : (s.clearFlag b).stopped = s.stopped := rfl
@[simp] theorem State.clearFlag_wdtCount (s : State) (b : BitVec 3) : (s.clearFlag b).wdtCount = s.wdtCount := rfl
@[simp] theorem State.clearFlag_ioLog (s : State) (b : BitVec 3) : (s.clearFlag b).ioLog = s.ioLog := rfl
@[simp] theorem State.clearFlag_draws (s : State) (b : BitVec 3) : (s.clearFlag b).draws = s.draws := rfl

-- State.startDelay

@[simp] theorem State.startDelay_part (s : State) : s.startDelay.part = s.part := rfl
@[simp] theorem State.startDelay_regs (s : State) : s.startDelay.regs = s.regs := rfl
@[simp] theorem State.startDelay_pc (s : State) : s.startDelay.pc = s.pc := rfl
@[simp] theorem State.startDelay_sreg (s : State) : s.startDelay.sreg = s.sreg := rfl
@[simp] theorem State.startDelay_sp (s : State) : s.startDelay.sp = s.sp := rfl
@[simp] theorem State.startDelay_rampz (s : State) : s.startDelay.rampz = s.rampz := rfl
@[simp] theorem State.startDelay_eind (s : State) : s.startDelay.eind = s.eind := rfl
@[simp] theorem State.startDelay_mcucr (s : State) : s.startDelay.mcucr = s.mcucr := rfl
@[simp] theorem State.startDelay_sfr (s : State) : s.startDelay.sfr = s.sfr := rfl
@[simp] theorem State.startDelay_sram (s : State) : s.startDelay.sram = s.sram := rfl
@[simp] theorem State.startDelay_prog (s : State) : s.startDelay.prog = s.prog := rfl
@[simp] theorem State.startDelay_irqPending (s : State) : s.startDelay.irqPending = s.irqPending := rfl
@[simp] theorem State.startDelay_irqDelay (s : State) :
    s.startDelay.irqDelay = if s.irqDelay = .set then .ending else s.irqDelay := rfl
@[simp] theorem State.startDelay_sleeping (s : State) : s.startDelay.sleeping = s.sleeping := rfl
@[simp] theorem State.startDelay_stopped (s : State) : s.startDelay.stopped = s.stopped := rfl
@[simp] theorem State.startDelay_wdtCount (s : State) : s.startDelay.wdtCount = s.wdtCount := rfl
@[simp] theorem State.startDelay_ioLog (s : State) : s.startDelay.ioLog = s.ioLog := rfl
@[simp] theorem State.startDelay_draws (s : State) : s.startDelay.draws = s.draws := rfl

-- State.complete

@[simp] theorem State.complete_part (s : State) : s.complete.part = s.part := rfl
@[simp] theorem State.complete_regs (s : State) : s.complete.regs = s.regs := rfl
@[simp] theorem State.complete_pc (s : State) : s.complete.pc = s.pc := rfl
@[simp] theorem State.complete_sreg (s : State) : s.complete.sreg = s.sreg := rfl
@[simp] theorem State.complete_sp (s : State) : s.complete.sp = s.sp := rfl
@[simp] theorem State.complete_rampz (s : State) : s.complete.rampz = s.rampz := rfl
@[simp] theorem State.complete_eind (s : State) : s.complete.eind = s.eind := rfl
@[simp] theorem State.complete_mcucr (s : State) : s.complete.mcucr = s.mcucr := rfl
@[simp] theorem State.complete_sfr (s : State) : s.complete.sfr = s.sfr := rfl
@[simp] theorem State.complete_sram (s : State) : s.complete.sram = s.sram := rfl
@[simp] theorem State.complete_prog (s : State) : s.complete.prog = s.prog := rfl
@[simp] theorem State.complete_irqPending (s : State) : s.complete.irqPending = s.irqPending := rfl
@[simp] theorem State.complete_irqDelay (s : State) :
    s.complete.irqDelay = if s.irqDelay = .ending then .off else s.irqDelay := rfl
@[simp] theorem State.complete_sleeping (s : State) : s.complete.sleeping = s.sleeping := rfl
@[simp] theorem State.complete_stopped (s : State) : s.complete.stopped = s.stopped := rfl
@[simp] theorem State.complete_wdtCount (s : State) : s.complete.wdtCount = s.wdtCount := rfl
@[simp] theorem State.complete_ioLog (s : State) : s.complete.ioLog = s.ioLog := rfl
@[simp] theorem State.complete_draws (s : State) : s.complete.draws = s.draws := rfl

-- State.charge

@[simp] theorem State.charge_part (s : State) (n : Nat) : (s.charge n).part = s.part := rfl
@[simp] theorem State.charge_regs (s : State) (n : Nat) : (s.charge n).regs = s.regs := rfl
@[simp] theorem State.charge_pc (s : State) (n : Nat) : (s.charge n).pc = s.pc := rfl
@[simp] theorem State.charge_sreg (s : State) (n : Nat) : (s.charge n).sreg = s.sreg := rfl
@[simp] theorem State.charge_sp (s : State) (n : Nat) : (s.charge n).sp = s.sp := rfl
@[simp] theorem State.charge_rampz (s : State) (n : Nat) : (s.charge n).rampz = s.rampz := rfl
@[simp] theorem State.charge_eind (s : State) (n : Nat) : (s.charge n).eind = s.eind := rfl
@[simp] theorem State.charge_mcucr (s : State) (n : Nat) : (s.charge n).mcucr = s.mcucr := rfl
@[simp] theorem State.charge_sfr (s : State) (n : Nat) : (s.charge n).sfr = s.sfr := rfl
@[simp] theorem State.charge_sram (s : State) (n : Nat) : (s.charge n).sram = s.sram := rfl
@[simp] theorem State.charge_prog (s : State) (n : Nat) : (s.charge n).prog = s.prog := rfl
@[simp] theorem State.charge_irqPending (s : State) (n : Nat) : (s.charge n).irqPending = s.irqPending := rfl
@[simp] theorem State.charge_irqDelay (s : State) (n : Nat) : (s.charge n).irqDelay = s.irqDelay := rfl
@[simp] theorem State.charge_sleeping (s : State) (n : Nat) : (s.charge n).sleeping = s.sleeping := rfl
@[simp] theorem State.charge_stopped (s : State) (n : Nat) : (s.charge n).stopped = s.stopped := rfl
@[simp] theorem State.charge_wdtCount (s : State) (n : Nat) :
    (s.charge n).wdtCount = if s.part.watchdog.isSome then s.wdtCount + n else s.wdtCount := rfl
@[simp] theorem State.charge_ioLog (s : State) (n : Nat) : (s.charge n).ioLog = s.ioLog := rfl
@[simp] theorem State.charge_draws (s : State) (n : Nat) : (s.charge n).draws = s.draws := rfl

-- State.resetInRun

@[simp] theorem State.resetInRun_part (s : State) : (s.resetInRun).part = s.part := rfl
@[simp] theorem State.resetInRun_prog (s : State) : (s.resetInRun).prog = s.prog := rfl
@[simp] theorem State.resetInRun_ioLog (s : State) : (s.resetInRun).ioLog = s.ioLog := rfl

-- State.writeSreg

@[simp] theorem State.writeSreg_part (s : State) (v : Byte) : (s.writeSreg v).part = s.part := by
  unfold State.writeSreg; split <;> rfl
@[simp] theorem State.writeSreg_regs (s : State) (v : Byte) : (s.writeSreg v).regs = s.regs := by
  unfold State.writeSreg; split <;> rfl
@[simp] theorem State.writeSreg_pc (s : State) (v : Byte) : (s.writeSreg v).pc = s.pc := by
  unfold State.writeSreg; split <;> rfl
@[simp] theorem State.writeSreg_sreg (s : State) (v : Byte) : (s.writeSreg v).sreg = v := by
  unfold State.writeSreg; split <;> rfl
@[simp] theorem State.writeSreg_sp (s : State) (v : Byte) : (s.writeSreg v).sp = s.sp := by
  unfold State.writeSreg; split <;> rfl
@[simp] theorem State.writeSreg_rampz (s : State) (v : Byte) : (s.writeSreg v).rampz = s.rampz := by
  unfold State.writeSreg; split <;> rfl
@[simp] theorem State.writeSreg_eind (s : State) (v : Byte) : (s.writeSreg v).eind = s.eind := by
  unfold State.writeSreg; split <;> rfl
@[simp] theorem State.writeSreg_mcucr (s : State) (v : Byte) : (s.writeSreg v).mcucr = s.mcucr := by
  unfold State.writeSreg; split <;> rfl
@[simp] theorem State.writeSreg_sfr (s : State) (v : Byte) : (s.writeSreg v).sfr = s.sfr := by
  unfold State.writeSreg; split <;> rfl
@[simp] theorem State.writeSreg_sram (s : State) (v : Byte) : (s.writeSreg v).sram = s.sram := by
  unfold State.writeSreg; split <;> rfl
@[simp] theorem State.writeSreg_prog (s : State) (v : Byte) : (s.writeSreg v).prog = s.prog := by
  unfold State.writeSreg; split <;> rfl
@[simp] theorem State.writeSreg_irqPending (s : State) (v : Byte) : (s.writeSreg v).irqPending = s.irqPending := by
  unfold State.writeSreg; split <;> rfl
@[simp] theorem State.writeSreg_sleeping (s : State) (v : Byte) : (s.writeSreg v).sleeping = s.sleeping := by
  unfold State.writeSreg; split <;> rfl
@[simp] theorem State.writeSreg_stopped (s : State) (v : Byte) : (s.writeSreg v).stopped = s.stopped := by
  unfold State.writeSreg; split <;> rfl
@[simp] theorem State.writeSreg_wdtCount (s : State) (v : Byte) : (s.writeSreg v).wdtCount = s.wdtCount := by
  unfold State.writeSreg; split <;> rfl
@[simp] theorem State.writeSreg_ioLog (s : State) (v : Byte) : (s.writeSreg v).ioLog = s.ioLog := by
  unfold State.writeSreg; split <;> rfl

-- State.coreWrite

@[simp] theorem State.coreWrite_part (s : State) (c : CoreSfr) (v : Byte) : (s.coreWrite c v).part = s.part := by
  cases c <;> simp [State.coreWrite]
@[simp] theorem State.coreWrite_regs (s : State) (c : CoreSfr) (v : Byte) : (s.coreWrite c v).regs = s.regs := by
  cases c <;> simp [State.coreWrite]
@[simp] theorem State.coreWrite_pc (s : State) (c : CoreSfr) (v : Byte) : (s.coreWrite c v).pc = s.pc := by
  cases c <;> simp [State.coreWrite]
@[simp] theorem State.coreWrite_sfr (s : State) (c : CoreSfr) (v : Byte) : (s.coreWrite c v).sfr = s.sfr := by
  cases c <;> simp [State.coreWrite]
@[simp] theorem State.coreWrite_sram (s : State) (c : CoreSfr) (v : Byte) : (s.coreWrite c v).sram = s.sram := by
  cases c <;> simp [State.coreWrite]
@[simp] theorem State.coreWrite_prog (s : State) (c : CoreSfr) (v : Byte) : (s.coreWrite c v).prog = s.prog := by
  cases c <;> simp [State.coreWrite]
@[simp] theorem State.coreWrite_irqPending (s : State) (c : CoreSfr) (v : Byte) : (s.coreWrite c v).irqPending = s.irqPending := by
  cases c <;> simp [State.coreWrite]
@[simp] theorem State.coreWrite_sleeping (s : State) (c : CoreSfr) (v : Byte) : (s.coreWrite c v).sleeping = s.sleeping := by
  cases c <;> simp [State.coreWrite]
@[simp] theorem State.coreWrite_stopped (s : State) (c : CoreSfr) (v : Byte) : (s.coreWrite c v).stopped = s.stopped := by
  cases c <;> simp [State.coreWrite]
@[simp] theorem State.coreWrite_wdtCount (s : State) (c : CoreSfr) (v : Byte) : (s.coreWrite c v).wdtCount = s.wdtCount := by
  cases c <;> simp [State.coreWrite]
@[simp] theorem State.coreWrite_ioLog (s : State) (c : CoreSfr) (v : Byte) : (s.coreWrite c v).ioLog = s.ioLog := by
  cases c <;> simp [State.coreWrite]

-- State.setSfrView

@[simp] theorem State.setSfrView_part (s : State) (a : Nat) (v : Byte) :
    (s.setSfrView a v).part = s.part := by
  unfold State.setSfrView; split <;> simp
@[simp] theorem State.setSfrView_regs (s : State) (a : Nat) (v : Byte) :
    (s.setSfrView a v).regs = s.regs := by
  unfold State.setSfrView; split <;> simp
@[simp] theorem State.setSfrView_pc (s : State) (a : Nat) (v : Byte) :
    (s.setSfrView a v).pc = s.pc := by
  unfold State.setSfrView; split <;> simp
@[simp] theorem State.setSfrView_sram (s : State) (a : Nat) (v : Byte) :
    (s.setSfrView a v).sram = s.sram := by
  unfold State.setSfrView; split <;> simp
@[simp] theorem State.setSfrView_prog (s : State) (a : Nat) (v : Byte) :
    (s.setSfrView a v).prog = s.prog := by
  unfold State.setSfrView; split <;> simp
@[simp] theorem State.setSfrView_irqPending (s : State) (a : Nat) (v : Byte) :
    (s.setSfrView a v).irqPending = s.irqPending := by
  unfold State.setSfrView; split <;> simp
@[simp] theorem State.setSfrView_sleeping (s : State) (a : Nat) (v : Byte) :
    (s.setSfrView a v).sleeping = s.sleeping := by
  unfold State.setSfrView; split <;> simp
@[simp] theorem State.setSfrView_stopped (s : State) (a : Nat) (v : Byte) :
    (s.setSfrView a v).stopped = s.stopped := by
  unfold State.setSfrView; split <;> simp
@[simp] theorem State.setSfrView_wdtCount (s : State) (a : Nat) (v : Byte) :
    (s.setSfrView a v).wdtCount = s.wdtCount := by
  unfold State.setSfrView; split <;> simp
@[simp] theorem State.setSfrView_ioLog (s : State) (a : Nat) (v : Byte) :
    (s.setSfrView a v).ioLog = s.ioLog := by
  unfold State.setSfrView; split <;> simp

-- State.branch

@[simp] theorem State.branch_part (s : State) (c : Bool) (k : BitVec 7) : (s.branch c k).part = s.part := by
  cases c <;> rfl
@[simp] theorem State.branch_regs (s : State) (c : Bool) (k : BitVec 7) : (s.branch c k).regs = s.regs := by
  cases c <;> rfl
@[simp] theorem State.branch_pc (s : State) (c : Bool) (k : BitVec 7) : (s.branch c k).pc = pcMod s.part (if c then s.target7 k else s.pc + 1) := by
  cases c <;> rfl
@[simp] theorem State.branch_sreg (s : State) (c : Bool) (k : BitVec 7) : (s.branch c k).sreg = s.sreg := by
  cases c <;> rfl
@[simp] theorem State.branch_sp (s : State) (c : Bool) (k : BitVec 7) : (s.branch c k).sp = s.sp := by
  cases c <;> rfl
@[simp] theorem State.branch_rampz (s : State) (c : Bool) (k : BitVec 7) : (s.branch c k).rampz = s.rampz := by
  cases c <;> rfl
@[simp] theorem State.branch_eind (s : State) (c : Bool) (k : BitVec 7) : (s.branch c k).eind = s.eind := by
  cases c <;> rfl
@[simp] theorem State.branch_mcucr (s : State) (c : Bool) (k : BitVec 7) : (s.branch c k).mcucr = s.mcucr := by
  cases c <;> rfl
@[simp] theorem State.branch_sfr (s : State) (c : Bool) (k : BitVec 7) : (s.branch c k).sfr = s.sfr := by
  cases c <;> rfl
@[simp] theorem State.branch_sram (s : State) (c : Bool) (k : BitVec 7) : (s.branch c k).sram = s.sram := by
  cases c <;> rfl
@[simp] theorem State.branch_prog (s : State) (c : Bool) (k : BitVec 7) : (s.branch c k).prog = s.prog := by
  cases c <;> rfl
@[simp] theorem State.branch_irqPending (s : State) (c : Bool) (k : BitVec 7) : (s.branch c k).irqPending = s.irqPending := by
  cases c <;> rfl
@[simp] theorem State.branch_irqDelay (s : State) (c : Bool) (k : BitVec 7) : (s.branch c k).irqDelay = s.irqDelay := by
  cases c <;> rfl
@[simp] theorem State.branch_sleeping (s : State) (c : Bool) (k : BitVec 7) : (s.branch c k).sleeping = s.sleeping := by
  cases c <;> rfl
@[simp] theorem State.branch_stopped (s : State) (c : Bool) (k : BitVec 7) : (s.branch c k).stopped = s.stopped := by
  cases c <;> rfl
@[simp] theorem State.branch_wdtCount (s : State) (c : Bool) (k : BitVec 7) : (s.branch c k).wdtCount = s.wdtCount := by
  cases c <;> rfl
@[simp] theorem State.branch_ioLog (s : State) (c : Bool) (k : BitVec 7) : (s.branch c k).ioLog = s.ioLog := by
  cases c <;> rfl
@[simp] theorem State.branch_draws (s : State) (c : Bool) (k : BitVec 7) : (s.branch c k).draws = s.draws := by
  cases c <;> rfl

-- State.receiveRequests

@[simp] theorem State.receiveRequests_part (s : State) : (s.receiveRequests).part = s.part := by
  unfold State.receiveRequests; split <;> rfl
@[simp] theorem State.receiveRequests_regs (s : State) : (s.receiveRequests).regs = s.regs := by
  unfold State.receiveRequests; split <;> rfl
@[simp] theorem State.receiveRequests_pc (s : State) : (s.receiveRequests).pc = s.pc := by
  unfold State.receiveRequests; split <;> rfl
@[simp] theorem State.receiveRequests_sreg (s : State) : (s.receiveRequests).sreg = s.sreg := by
  unfold State.receiveRequests; split <;> rfl
@[simp] theorem State.receiveRequests_sp (s : State) : (s.receiveRequests).sp = s.sp := by
  unfold State.receiveRequests; split <;> rfl
@[simp] theorem State.receiveRequests_rampz (s : State) : (s.receiveRequests).rampz = s.rampz := by
  unfold State.receiveRequests; split <;> rfl
@[simp] theorem State.receiveRequests_eind (s : State) : (s.receiveRequests).eind = s.eind := by
  unfold State.receiveRequests; split <;> rfl
@[simp] theorem State.receiveRequests_mcucr (s : State) : (s.receiveRequests).mcucr = s.mcucr := by
  unfold State.receiveRequests; split <;> rfl
@[simp] theorem State.receiveRequests_sfr (s : State) : (s.receiveRequests).sfr = s.sfr := by
  unfold State.receiveRequests; split <;> rfl
@[simp] theorem State.receiveRequests_sram (s : State) : (s.receiveRequests).sram = s.sram := by
  unfold State.receiveRequests; split <;> rfl
@[simp] theorem State.receiveRequests_prog (s : State) : (s.receiveRequests).prog = s.prog := by
  unfold State.receiveRequests; split <;> rfl
@[simp] theorem State.receiveRequests_irqDelay (s : State) : (s.receiveRequests).irqDelay = s.irqDelay := by
  unfold State.receiveRequests; split <;> rfl
@[simp] theorem State.receiveRequests_sleeping (s : State) : (s.receiveRequests).sleeping = s.sleeping := by
  unfold State.receiveRequests; split <;> rfl
@[simp] theorem State.receiveRequests_stopped (s : State) : (s.receiveRequests).stopped = s.stopped := by
  unfold State.receiveRequests; split <;> rfl
@[simp] theorem State.receiveRequests_wdtCount (s : State) : (s.receiveRequests).wdtCount = s.wdtCount := by
  unfold State.receiveRequests; split <;> rfl
@[simp] theorem State.receiveRequests_ioLog (s : State) : (s.receiveRequests).ioLog = s.ioLog := by
  unfold State.receiveRequests; split <;> rfl

-- State.watchdogPassed

@[simp] theorem State.watchdogPassed_part (s : State) : (s.watchdogPassed).part = s.part := by
  unfold State.watchdogPassed; split <;> rfl
@[simp] theorem State.watchdogPassed_regs (s : State) : (s.watchdogPassed).regs = s.regs := by
  unfold State.watchdogPassed; split <;> rfl
@[simp] theorem State.watchdogPassed_pc (s : State) : (s.watchdogPassed).pc = s.pc := by
  unfold State.watchdogPassed; split <;> rfl
@[simp] theorem State.watchdogPassed_sreg (s : State) : (s.watchdogPassed).sreg = s.sreg := by
  unfold State.watchdogPassed; split <;> rfl
@[simp] theorem State.watchdogPassed_sp (s : State) : (s.watchdogPassed).sp = s.sp := by
  unfold State.watchdogPassed; split <;> rfl
@[simp] theorem State.watchdogPassed_rampz (s : State) : (s.watchdogPassed).rampz = s.rampz := by
  unfold State.watchdogPassed; split <;> rfl
@[simp] theorem State.watchdogPassed_eind (s : State) : (s.watchdogPassed).eind = s.eind := by
  unfold State.watchdogPassed; split <;> rfl
@[simp] theorem State.watchdogPassed_mcucr (s : State) : (s.watchdogPassed).mcucr = s.mcucr := by
  unfold State.watchdogPassed; split <;> rfl
@[simp] theorem State.watchdogPassed_sfr (s : State) : (s.watchdogPassed).sfr = s.sfr := by
  unfold State.watchdogPassed; split <;> rfl
@[simp] theorem State.watchdogPassed_sram (s : State) : (s.watchdogPassed).sram = s.sram := by
  unfold State.watchdogPassed; split <;> rfl
@[simp] theorem State.watchdogPassed_prog (s : State) : (s.watchdogPassed).prog = s.prog := by
  unfold State.watchdogPassed; split <;> rfl
@[simp] theorem State.watchdogPassed_irqPending (s : State) : (s.watchdogPassed).irqPending = s.irqPending := by
  unfold State.watchdogPassed; split <;> rfl
@[simp] theorem State.watchdogPassed_irqDelay (s : State) : (s.watchdogPassed).irqDelay = s.irqDelay := by
  unfold State.watchdogPassed; split <;> rfl
@[simp] theorem State.watchdogPassed_sleeping (s : State) : (s.watchdogPassed).sleeping = s.sleeping := by
  unfold State.watchdogPassed; split <;> rfl
@[simp] theorem State.watchdogPassed_stopped (s : State) : (s.watchdogPassed).stopped = s.stopped := by
  unfold State.watchdogPassed; split <;> rfl
@[simp] theorem State.watchdogPassed_wdtCount (s : State) : (s.watchdogPassed).wdtCount = s.wdtCount := by
  unfold State.watchdogPassed; split <;> rfl
@[simp] theorem State.watchdogPassed_ioLog (s : State) : (s.watchdogPassed).ioLog = s.ioLog := by
  unfold State.watchdogPassed; split <;> rfl

end Sys2Proof.Machine
end

