-- ==== Sys2Proof/Laws/Registers.lean ====
section
/-! SUPPORT. Reading registers, pairs and bits of SREG after they are written; the reductions of pc and SP. -/

namespace Sys2Proof.Machine

/-- A register after a write of a register. -/
@[simp] theorem State.reg_setReg (s : State) (d k : Reg) (v : Byte) :
    (s.setReg d v).reg k = if k = d then v else s.reg k := by
  unfold State.reg State.setReg
  by_cases h : k = d
  · subst h; simp
  · have : d.toNat ≠ k.toNat := fun e => h (BitVec.eq_of_toNat_eq e.symm)
    simp [h, this]

/-- The two registers of a pair are different. -/
theorem reg_succ_ne (p : Reg) : p + 1 ≠ p := by
  intro h
  have := congrArg BitVec.toNat h
  simp at this
  omega

/-- A register after a write of a pair. -/
@[simp] theorem State.reg_setPair (s : State) (p k : Reg) (v : Word) :
    (s.setPair p v).reg k = if k = p then lowByte v else if k = p + 1 then highByte v else s.reg k := by
  simp [State.setPair]

/-- The bytes of a 16-bit value put together again. -/
theorem highByte_append_lowByte (v : Word) : highByte v ++ lowByte v = v := by
  apply BitVec.eq_of_getLsbD_eq
  intro i hi
  simp only [highByte, lowByte, BitVec.getLsbD_append, BitVec.getLsbD_extractLsb']
  by_cases h : i < 8
  · simp [h]
  · have h8 : i - 8 < 8 := by omega
    have he : 8 + (i - 8) = i := by omega
    simp only [h, if_false, h8, decide_true, Bool.true_and, he]

@[simp] theorem lowByte_append (h l : Byte) : lowByte (h ++ l) = l := by
  apply BitVec.eq_of_getLsbD_eq
  intro i hi
  simp only [lowByte, BitVec.getLsbD_append, BitVec.getLsbD_extractLsb', hi, Nat.zero_add, decide_true, if_true,
    Bool.true_and]

@[simp] theorem highByte_append (h l : Byte) : highByte (h ++ l) = h := by
  apply BitVec.eq_of_getLsbD_eq
  intro i hi
  simp only [highByte, BitVec.getLsbD_append, BitVec.getLsbD_extractLsb', hi, decide_true, Bool.true_and,
    show ¬8 + i < 8 by omega, if_false, show 8 + i - 8 = i by omega]

/-- A pair after it is written. -/
@[simp] theorem State.pair_setPair (s : State) (p : Reg) (v : Word) : (s.setPair p v).pair p = v := by
  simp [State.pair, highByte_append_lowByte]

/-- Registers read through an update that does not write registers. -/
theorem State.reg_congr {s t : State} (h : t.regs = s.regs) (k : Reg) : t.reg k = s.reg k := by
  unfold State.reg; simp [h]

@[simp] theorem State.reg_jump (s : State) (a : PcWord) (k : Reg) : (s.jump a).reg k = s.reg k := rfl
@[simp] theorem State.reg_advance (s : State) (n : PcWord) (k : Reg) : (s.advance n).reg k = s.reg k := rfl
@[simp] theorem State.reg_setSp (s : State) (v : Word) (k : Reg) : (s.setSp v).reg k = s.reg k := rfl
@[simp] theorem State.reg_setSreg (s : State) (v : Byte) (k : Reg) : (s.setSreg v).reg k = s.reg k := rfl
@[simp] theorem State.reg_observe (s : State) (e : IoEvent) (k : Reg) : (s.observe e).reg k = s.reg k := rfl
@[simp] theorem State.reg_drawn (s : State) (k : Reg) : s.drawn.reg k = s.reg k := rfl
@[simp] theorem State.reg_setSfrByte (s : State) (a : Nat) (v : Byte) (k : Reg) :
    (s.setSfrByte a v).reg k = s.reg k := rfl
@[simp] theorem State.reg_withdraw (s : State) (a : Nat) (v : Byte) (k : Reg) :
    (s.withdraw a v).reg k = s.reg k := rfl
@[simp] theorem State.reg_coreWrite (s : State) (c : CoreSfr) (v : Byte) (k : Reg) :
    (s.coreWrite c v).reg k = s.reg k := State.reg_congr (by simp) k
@[simp] theorem State.reg_setSfrView (s : State) (a : Nat) (v : Byte) (k : Reg) :
    (s.setSfrView a v).reg k = s.reg k := State.reg_congr (by simp) k
@[simp] theorem State.reg_result (s : State) (d k : Reg) (v sr : Byte) :
    (s.result d v sr).reg k = if k = d then v else s.reg k := by simp [State.result]
@[simp] theorem State.reg_flagsOnly (s : State) (k : Reg) (sr : Byte) : (s.flagsOnly sr).reg k = s.reg k := rfl
@[simp] theorem State.reg_resultPair (s : State) (p k : Reg) (v : Word) (sr : Byte) :
    (s.resultPair p v sr).reg k = if k = p then lowByte v else if k = p + 1 then highByte v else s.reg k := by
  simp [State.resultPair]
@[simp] theorem State.pair_jump (s : State) (a : PcWord) (k : Reg) : (s.jump a).pair k = s.pair k := rfl
@[simp] theorem State.pair_advance (s : State) (n : PcWord) (k : Reg) : (s.advance n).pair k = s.pair k := rfl
@[simp] theorem State.pair_resultPair (s : State) (p : Reg) (v : Word) (sr : Byte) :
    (s.resultPair p v sr).pair p = v := by
  simp [State.pair, highByte_append_lowByte]

/-- The bits of a status register built from its flags (R26). -/
theorem sregOf_bits (i t h s v n z c : Bool) :
    flagI (sregOf i t h s v n z c) = i ∧ flagT (sregOf i t h s v n z c) = t ∧ flagH (sregOf i t h s v n z c) = h ∧
      flagS (sregOf i t h s v n z c) = s ∧ flagV (sregOf i t h s v n z c) = v ∧ flagN (sregOf i t h s v n z c) = n ∧
      flagZ (sregOf i t h s v n z c) = z ∧ flagC (sregOf i t h s v n z c) = c := by
  cases i <;> cases t <;> cases h <;> cases s <;> cases v <;> cases n <;> cases z <;> cases c <;> decide

@[simp] theorem flagI_sregOf (i t h s v n z c : Bool) : flagI (sregOf i t h s v n z c) = i :=
  (sregOf_bits i t h s v n z c).1
@[simp] theorem flagT_sregOf (i t h s v n z c : Bool) : flagT (sregOf i t h s v n z c) = t :=
  (sregOf_bits i t h s v n z c).2.1
@[simp] theorem flagH_sregOf (i t h s v n z c : Bool) : flagH (sregOf i t h s v n z c) = h :=
  (sregOf_bits i t h s v n z c).2.2.1
@[simp] theorem flagS_sregOf (i t h s v n z c : Bool) : flagS (sregOf i t h s v n z c) = s :=
  (sregOf_bits i t h s v n z c).2.2.2.1
@[simp] theorem flagV_sregOf (i t h s v n z c : Bool) : flagV (sregOf i t h s v n z c) = v :=
  (sregOf_bits i t h s v n z c).2.2.2.2.1
@[simp] theorem flagN_sregOf (i t h s v n z c : Bool) : flagN (sregOf i t h s v n z c) = n :=
  (sregOf_bits i t h s v n z c).2.2.2.2.2.1
@[simp] theorem flagZ_sregOf (i t h s v n z c : Bool) : flagZ (sregOf i t h s v n z c) = z :=
  (sregOf_bits i t h s v n z c).2.2.2.2.2.2.1
@[simp] theorem flagC_sregOf (i t h s v n z c : Bool) : flagC (sregOf i t h s v n z c) = c :=
  (sregOf_bits i t h s v n z c).2.2.2.2.2.2.2

/-- One bit of SREG after one bit is written. -/
theorem getLsbD_sregWithBit (sr : Byte) (b k : BitVec 3) (v : Bool) :
    (sregWithBit sr b v).getLsbD k.toNat = if k = b then v else sr.getLsbD k.toNat := by
  have hb := b.isLt
  have hk := k.isLt
  have hne : k ≠ b → k.toNat ≠ b.toNat := fun h e => h (BitVec.eq_of_toNat_eq e)
  cases v <;> by_cases h : k = b <;> simp_all [sregWithBit] <;> omega

/-- One bit of a byte after one bit is written. -/
theorem getLsbD_byteWithBit (x : Byte) (b : BitVec 3) (v : Bool) (n : Nat) (hn : n < 8) :
    (byteWithBit x b v).getLsbD n = if n = b.toNat then v else x.getLsbD n := by
  have hb := b.isLt
  cases v <;> by_cases h : n = b.toNat <;> simp_all [byteWithBit] <;> omega

/-- Reducing a pc twice is reducing it once. -/
@[simp] theorem pcMod_pcMod (p : Part) (a : PcWord) : pcMod p (pcMod p a) = pcMod p a := by
  unfold pcMod
  cases p.pcWidth
  · apply BitVec.eq_of_toNat_eq; simp
  · rfl

/-- Reducing an SP twice is reducing it once. -/
@[simp] theorem spMod_spMod (p : Part) (a : Word) : spMod p (spMod p a) = spMod p a := by
  unfold spMod
  cases p.spWidth
  · apply BitVec.eq_of_toNat_eq; simp
  · rfl

end Sys2Proof.Machine
end

