-- ==== Sys2Proof/Laws/Access.lean ====
section
/-! SUPPORT. What each shared operation can do, said once: SFR and data-space accesses, the stack, program memory, skips,
interrupt entry and return. Each lemma reads: if the operation answers ok, then this is its result and this is all that
changed. -/

namespace Sys2Proof.Machine

/-- Two states that differ at most in general registers and pc. -/
def SameButRegsPc (s t : State) : Prop :=
  t.part = s.part ∧ t.sreg = s.sreg ∧ t.sp = s.sp ∧ t.rampz = s.rampz ∧ t.eind = s.eind ∧ t.mcucr = s.mcucr ∧
    t.sfr = s.sfr ∧ t.sram = s.sram ∧ t.prog = s.prog ∧ t.irqPending = s.irqPending ∧ t.irqDelay = s.irqDelay ∧
    t.sleeping = s.sleeping ∧ t.stopped = s.stopped ∧ t.wdtCount = s.wdtCount ∧ t.ioLog = s.ioLog ∧ t.draws = s.draws

/-- Reading the image depends on the part and the program memory alone. -/
theorem State.imageByte_congr {s t : State} (hp : t.part = s.part) (hm : t.prog = s.prog) (b : Nat) :
    t.imageByte b = s.imageByte b := by
  unfold State.imageByte; rw [hp, hm]

/-- Reading a program word depends on the part and the program memory alone. -/
theorem State.progWord_congr {s t : State} (hp : t.part = s.part) (hm : t.prog = s.prog) (w : Nat) :
    t.progWord w = s.progWord w := by
  unfold State.progWord; rw [State.imageByte_congr hp hm, State.imageByte_congr hp hm]

/-- An SFR byte depends on the SFR memory alone. -/
theorem State.sfrByte_congr {s t : State} (h : t.sfr = s.sfr) (a : Nat) : t.sfrByte a = s.sfrByte a := by
  unfold State.sfrByte; rw [h]

/-- An SRAM byte depends on the SRAM alone. -/
theorem State.sramByte_congr {s t : State} (h : t.sram = s.sram) (a : Nat) : t.sramByte a = s.sramByte a := by
  unfold State.sramByte; rw [h]

/-- States that agree on part, SFRs, SRAM and program memory agree on every byte of memory. -/
theorem keepsMemory_of {s t : State} (hp : t.part = s.part) (hf : t.sfr = s.sfr) (hr : t.sram = s.sram)
    (hm : t.prog = s.prog) : KeepsMemory s t :=
  ⟨fun a _ => State.sramByte_congr hr a, fun a _ => State.sfrByte_congr hf a, State.imageByte_congr hp hm⟩

/-- States that differ at most in registers, SREG and pc keep everything else. -/
theorem keepsRest_of {s t : State} (h : SameButRegsPc (s.setSreg t.sreg) t) : KeepsRest s t := by
  obtain ⟨hp, -, hsp, hz, he, hmc, hf, hr, hm, hq, hd, hsl, hst, hw, hi, hdr⟩ := h
  exact ⟨keepsMemory_of hp hf hr hm, ⟨hp, hq, hsl, hst, hw⟩, ⟨hi, hdr, hd⟩, ⟨hz, he, hmc⟩, hsp⟩

/-- Writing an SFR byte leaves the bytes of all other SFRs. -/
theorem State.sfrByte_setSfrByte_ne {s : State} {a b : Nat} {v : Byte} (h : b ≠ a) :
    (s.setSfrByte a v).sfrByte b = s.sfrByte b := by
  simp [State.sfrByte, Memory.read_write_ne h]

/-- An SFR reads as it was written, in a canonical SFR memory. -/
theorem State.sfrByte_setSfrByte_self {s : State} {a : Nat} {v : Byte} (h : Memory.rising s.sfr = true) :
    (s.setSfrByte a v).sfrByte a = v := by
  simp [State.sfrByte, Memory.read_write_self h]

/-- What writing an architectural register as an SFR leaves alone. -/
theorem State.coreWrite_frame (s : State) (c : CoreSfr) (v : Byte) :
    (s.coreWrite c v).part = s.part ∧ (s.coreWrite c v).pc = s.pc ∧ (s.coreWrite c v).prog = s.prog ∧
      (s.coreWrite c v).stopped = s.stopped ∧ (s.coreWrite c v).ioLog = s.ioLog := by
  simp

/-- What changing one cell leaves alone. -/
theorem State.setCell_frame (s : State) (c : IoCell) (v : Byte) :
    (s.setCell c v).part = s.part ∧ (s.setCell c v).pc = s.pc ∧ (s.setCell c v).prog = s.prog ∧
      (s.setCell c v).stopped = s.stopped ∧ (s.setCell c v).ioLog = s.ioLog := by
  cases c with
  | data a =>
    simp only [State.setCell]
    split
    · simp
    · simp
    · simp
    · simp
  | request n => exact ⟨rfl, rfl, rfl, rfl, rfl⟩
  | sleeping => exact ⟨rfl, rfl, rfl, rfl, rfl⟩
  | irqDelay => exact ⟨rfl, rfl, rfl, rfl, rfl⟩
  | watchdog => exact ⟨rfl, rfl, rfl, rfl, rfl⟩

/-- What changing cells leaves alone. -/
theorem State.setCells_frame (s : State) (l : List (IoCell × Byte)) :
    (s.setCells l).part = s.part ∧ (s.setCells l).pc = s.pc ∧ (s.setCells l).prog = s.prog ∧
      (s.setCells l).stopped = s.stopped ∧ (s.setCells l).ioLog = s.ioLog := by
  induction l generalizing s with
  | nil => exact ⟨rfl, rfl, rfl, rfl, rfl⟩
  | cons c l ih =>
    have h1 := State.setCell_frame s c.1 c.2
    have h2 := ih (s.setCell c.1 c.2)
    simp only [State.setCells, List.foldl_cons] at h2 ⊢
    exact ⟨h2.1.trans h1.1, h2.2.1.trans h1.2.1, h2.2.2.1.trans h1.2.2.1, h2.2.2.2.1.trans h1.2.2.2.1,
      h2.2.2.2.2.trans h1.2.2.2.2⟩

@[simp] theorem State.applyEffects_part (s : State) (w : Byte) (es : List IoEffect) :
    (s.applyEffects w es).part = s.part := (State.setCells_frame s _).1
@[simp] theorem State.applyEffects_pc (s : State) (w : Byte) (es : List IoEffect) :
    (s.applyEffects w es).pc = s.pc := (State.setCells_frame s _).2.1
@[simp] theorem State.applyEffects_prog (s : State) (w : Byte) (es : List IoEffect) :
    (s.applyEffects w es).prog = s.prog := (State.setCells_frame s _).2.2.1
@[simp] theorem State.applyEffects_stopped (s : State) (w : Byte) (es : List IoEffect) :
    (s.applyEffects w es).stopped = s.stopped := (State.setCells_frame s _).2.2.2.1
@[simp] theorem State.applyEffects_ioLog (s : State) (w : Byte) (es : List IoEffect) :
    (s.applyEffects w es).ioLog = s.ioLog := (State.setCells_frame s _).2.2.2.2

/-- Plain access to an architectural register is to the one that holds the byte. -/
theorem archSfrAt_of_coreSfrAt {p : Part} {a : Nat} {c : CoreSfr} (h : coreSfrAt p a = some c) :
    archSfrAt p a = some c := by
  unfold coreSfrAt at h
  split at h
  · rename_i hm
    split at h
    · rw [hm, h]
    · cases h
  · exact h

/-- An SFR of plain storage that is not reached as an architectural register is none. -/
theorem archSfrAt_none_of_storage {p : Part} {a : Nat} (h : coreSfrAt p a = none)
    (hk : sfrKindAt p a = some .storage) : archSfrAt p a = none := by
  unfold coreSfrAt at h
  split at h
  · simp [hk] at h
  · exact h

/-- An SFR that holds no architectural register stands in the SFR memory alone. -/
theorem State.sfrView_eq {s : State} {a : Nat} (h : archSfrAt s.part a = none) : s.sfrView a = s.sfrByte a := by
  simp [State.sfrView, h]

/-- A change of an SFR that holds no architectural register is one of the SFR memory. -/
theorem State.setSfrView_eq {s : State} {a : Nat} {v : Byte} (h : archSfrAt s.part a = none) :
    s.setSfrView a v = s.setSfrByte a v := by
  simp [State.setSfrView, h]

/-- Everything an SFR read can do. -/
theorem State.ioRead_cases {s t : State} {a : Nat} {v : Byte} (h : s.ioRead a = .ok (v, t)) :
    (∃ c, coreSfrAt s.part a = some c ∧ v = s.coreRead c ∧ t = s.observe (.read a v)) ∨
    (coreSfrAt s.part a = none ∧
      ((sfrKindAt s.part a = some .storage ∧ v = s.sfrByte a ∧ t = s.observe (.read a v)) ∨
       (sfrKindAt s.part a = some .pins ∧ v = Config.pinByte s.draws ∧ t = (s.observe (.read a v)).drawn) ∨
       (sfrKindAt s.part a = some .flags ∧ v = (s.sfrView a ||| Config.flagsRaised s.draws) ∧
        t = ((s.setSfrView a v).observe (.read a v)).drawn) ∨
       ∃ b, sfrKindAt s.part a = some (.described b) ∧ v = s.ioValue 0#8 b.readValue ∧
        t = ((s.applyEffects 0#8 b.onRead).observe (.read a v)).drawn)) := by
  unfold State.ioRead at h
  split at h
  · rename_i c hc
    cases h
    exact .inl ⟨c, hc, rfl, rfl⟩
  · rename_i hc
    refine .inr ⟨hc, ?_⟩
    split at h
    · cases h
    · rename_i hk; cases h; exact .inl ⟨hk, rfl, rfl⟩
    · rename_i hk; cases h; exact .inr (.inl ⟨hk, rfl, rfl⟩)
    · rename_i hk; cases h; exact .inr (.inr (.inl ⟨hk, rfl, rfl⟩))
    · rename_i hk; cases h; exact .inr (.inr (.inr ⟨_, hk, rfl, rfl⟩))

/-- What every SFR read leaves alone. -/
theorem State.ioRead_frame {s t : State} {a : Nat} {v : Byte} (h : s.ioRead a = .ok (v, t)) :
    t.part = s.part ∧ t.pc = s.pc ∧ t.prog = s.prog ∧ t.stopped = s.stopped ∧ t.ioLog = s.ioLog ++ [.read a v] := by
  rcases State.ioRead_cases h with ⟨c, _, _, rfl⟩ | ⟨_, ⟨_, _, rfl⟩ | ⟨_, _, rfl⟩ | ⟨_, _, rfl⟩ | ⟨b, _, _, rfl⟩⟩
  all_goals simp

/-- Everything an SFR write can do. -/
theorem State.ioWrite_cases {s t : State} {a : Nat} {v : Byte} (h : s.ioWrite a v = .ok t) :
    (∃ c, coreSfrAt s.part a = some c ∧ t = (s.coreWrite c v).observe (.write a v)) ∨
    (coreSfrAt s.part a = none ∧
      ((sfrKindAt s.part a = some .storage ∧ t = (s.setSfrByte a v).observe (.write a v)) ∨
       (sfrKindAt s.part a = some .pins ∧ t = s.observe (.write a v)) ∨
       (sfrKindAt s.part a = some .flags ∧
        t = ((s.setSfrView a (s.sfrView a &&& ~~~v)).withdraw a v).observe (.write a v)) ∨
       ∃ b, sfrKindAt s.part a = some (.described b) ∧
        t = ((s.applyEffects v b.onWrite).observe (.write a v)).drawn)) := by
  unfold State.ioWrite at h
  split at h
  · rename_i c hc
    cases h
    exact .inl ⟨c, hc, rfl⟩
  · rename_i hc
    refine .inr ⟨hc, ?_⟩
    split at h
    · cases h
    · rename_i hk; cases h; exact .inl ⟨hk, rfl⟩
    · rename_i hk; cases h; exact .inr (.inl ⟨hk, rfl⟩)
    · rename_i hk; cases h; exact .inr (.inr (.inl ⟨hk, rfl⟩))
    · rename_i hk; cases h; exact .inr (.inr (.inr ⟨_, hk, rfl⟩))

/-- What every SFR write leaves alone. -/
theorem State.ioWrite_frame {s t : State} {a : Nat} {v : Byte} (h : s.ioWrite a v = .ok t) :
    t.part = s.part ∧ t.pc = s.pc ∧ t.prog = s.prog ∧ t.stopped = s.stopped ∧ t.ioLog = s.ioLog ++ [.write a v] := by
  rcases State.ioWrite_cases h with ⟨c, _, rfl⟩ | ⟨_, ⟨_, rfl⟩ | ⟨_, rfl⟩ | ⟨_, rfl⟩ | ⟨b, _, rfl⟩⟩
  all_goals simp

/-- The address of a place of the data space: registers below $20, SFRs below SRAM, SRAM up to `RAMEND` (R62). -/
theorem dataPlace_register {p : Part} {a : Word} {d : Reg} (h : dataPlace p a = .register d) :
    a.toNat < 32 ∧ d = a.setWidth 5 := by
  unfold dataPlace at h
  repeat' split at h
  all_goals try cases h
  exact ⟨‹_›, rfl⟩

theorem dataPlace_sfr {p : Part} {a : Word} (h : dataPlace p a = .sfr) :
    32 ≤ a.toNat ∧ (a.toNat < 96 ∨ a.toNat < p.sramStart) := by
  unfold dataPlace at h
  repeat' split at h
  all_goals try cases h
  all_goals omega

theorem dataPlace_sram {p : Part} {a : Word} (h : dataPlace p a = .sram) :
    96 ≤ a.toNat ∧ p.sramStart ≤ a.toNat ∧ a.toNat ≤ p.ramEnd := by
  unfold dataPlace at h
  repeat' split at h
  all_goals try cases h
  omega

/-- Everything a data-space read can do. -/
theorem State.memRead_cases {s t : State} {a : Word} {v : Byte} (h : s.memRead a = .ok (v, t)) :
    (∃ d, dataPlace s.part a = .register d ∧ v = s.reg d ∧ t = s) ∨
    (dataPlace s.part a = .sfr ∧ s.ioRead a.toNat = .ok (v, t)) ∨
    (dataPlace s.part a = .sram ∧ s.sramByte a.toNat = some v ∧ t = s) := by
  unfold State.memRead at h
  split at h
  · cases h; exact .inl ⟨_, ‹_›, rfl, rfl⟩
  · exact .inr (.inl ⟨‹_›, h⟩)
  · split at h
    · cases h; exact .inr (.inr ⟨‹_›, ‹_›, rfl⟩)
    · cases h
  · cases h

/-- Everything a data-space write can do. -/
theorem State.memWrite_cases {s t : State} {a : Word} {v : Byte} (h : s.memWrite a v = .ok t) :
    (∃ d, dataPlace s.part a = .register d ∧ t = s.setReg d v) ∨
    (dataPlace s.part a = .sfr ∧ s.ioWrite a.toNat v = .ok t) ∨
    (dataPlace s.part a = .sram ∧ t = { s with sram := Memory.write none s.sram a.toNat v }) := by
  unfold State.memWrite at h
  split at h
  · cases h; exact .inl ⟨_, ‹_›, rfl⟩
  · exact .inr (.inl ⟨‹_›, h⟩)
  · cases h; exact .inr (.inr ⟨‹_›, rfl⟩)
  · cases h

/-- A read where the byte is plain storage gives that byte and changes nothing. -/
theorem State.memRead_plain {s : State} {a : Word} {v : Byte} (h : plainByte s a = some v) :
    s.memRead a = .ok (v, s) := by
  unfold plainByte at h
  unfold State.memRead
  split at h <;> simp_all

/-- A write at an SRAM address. -/
theorem State.memWrite_sram {s : State} {a : Word} {v : Byte} (h : dataPlace s.part a = .sram) :
    s.memWrite a v = .ok { s with sram := Memory.write none s.sram a.toNat v } := by
  unfold State.memWrite; simp [h]

/-- What every data-space read leaves alone. -/
theorem State.memRead_frame {s t : State} {a : Word} {v : Byte} (h : s.memRead a = .ok (v, t)) :
    t.part = s.part ∧ t.pc = s.pc ∧ t.prog = s.prog ∧ t.stopped = s.stopped := by
  rcases State.memRead_cases h with ⟨_, _, _, rfl⟩ | ⟨_, h⟩ | ⟨_, _, rfl⟩
  · simp
  · have := State.ioRead_frame h; simp_all
  · simp

/-- What every data-space write leaves alone. -/
theorem State.memWrite_frame {s t : State} {a : Word} {v : Byte} (h : s.memWrite a v = .ok t) :
    t.part = s.part ∧ t.pc = s.pc ∧ t.prog = s.prog ∧ t.stopped = s.stopped := by
  rcases State.memWrite_cases h with ⟨_, _, rfl⟩ | ⟨_, h⟩ | ⟨_, rfl⟩
  · simp
  · have := State.ioWrite_frame h; simp_all
  · simp

/-- What a push, at any place, leaves alone. -/
theorem State.push8_frame {s t : State} {v : Byte} (h : s.push8 v = .ok t) :
    t.part = s.part ∧ t.pc = s.pc ∧ t.prog = s.prog ∧ t.stopped = s.stopped := by
  unfold State.push8 at h
  cases hw : s.memWrite s.sp v with
  | error f => rw [hw] at h; cases h
  | ok u => rw [hw] at h; cases h; simpa using State.memWrite_frame hw

/-- A push into SRAM. -/
theorem State.push8_sram {s : State} {v : Byte} (h : dataPlace s.part s.sp = .sram) :
    s.push8 v = .ok { s with
      sram := Memory.write none s.sram s.sp.toNat v
      sp := spMod s.part (s.sp - 1) } := by
  unfold State.push8; rw [State.memWrite_sram h]; rfl

/-- What a pop leaves alone. -/
theorem State.pop8_frame {s t : State} {v : Byte} (h : s.pop8 = .ok (v, t)) :
    t.part = s.part ∧ t.pc = s.pc ∧ t.prog = s.prog ∧ t.stopped = s.stopped := by
  have := State.memRead_frame h
  simpa using this

/-- A byte of plain storage does not depend on SP. -/
@[simp] theorem plainByte_setSp (s : State) (v a : Word) : plainByte (s.setSp v) a = plainByte s a := rfl

/-- A pop of a byte of plain storage. -/
theorem State.pop8_plain {s : State} {v : Byte} (h : plainByte s (spMod s.part (s.sp + 1)) = some v) :
    s.pop8 = .ok (v, s.setSp (s.sp + 1)) := by
  unfold State.pop8
  exact State.memRead_plain (by simpa using h)

/-- What pushing a return address leaves alone. -/
theorem State.pushPc_frame {s t : State} {a : PcWord} (h : s.pushPc a = .ok t) :
    t.part = s.part ∧ t.pc = s.pc ∧ t.prog = s.prog ∧ t.stopped = s.stopped := by
  unfold State.pushPc at h
  cases h1 : s.push8 (a.extractLsb' 0 8) with
  | error f => rw [h1] at h; cases h
  | ok u =>
    rw [h1] at h
    simp only [Except.bind] at h
    cases h2 : u.push8 (a.extractLsb' 8 8) with
    | error f => rw [h2] at h; cases h
    | ok w =>
      rw [h2] at h
      have f1 := State.push8_frame h1
      have f2 := State.push8_frame h2
      simp only [] at h
      cases hw : s.part.pcWidth <;> rw [hw] at h
      · cases h; simp_all
      · have f3 := State.push8_frame h; simp_all

/-- What popping a return address leaves alone. -/
theorem State.popPc_frame {s t : State} {a : PcWord} (h : s.popPc = .ok (a, t)) :
    t.part = s.part ∧ t.pc = s.pc ∧ t.prog = s.prog ∧ t.stopped = s.stopped := by
  unfold State.popPc at h
  split at h
  · cases h1 : s.pop8 with
    | error f => rw [h1] at h; cases h
    | ok u =>
      rw [h1] at h
      simp only [Except.bind] at h
      cases h2 : u.2.pop8 with
      | error f => rw [h2] at h; cases h
      | ok w =>
        rw [h2] at h
        cases h
        have f1 := State.pop8_frame h1
        have f2 := State.pop8_frame h2
        simp_all
  · cases h1 : s.pop8 with
    | error f => rw [h1] at h; cases h
    | ok u =>
      rw [h1] at h
      simp only [Except.bind] at h
      cases h2 : u.2.pop8 with
      | error f => rw [h2] at h; cases h
      | ok w =>
        rw [h2] at h
        simp only at h
        cases h3 : w.2.pop8 with
        | error f => rw [h3] at h; cases h
        | ok x =>
          rw [h3] at h
          cases h
          have f1 := State.pop8_frame h1
          have f2 := State.pop8_frame h2
          have f3 := State.pop8_frame h3
          simp_all

/-- What a skip leaves: everything but pc. -/
theorem State.skip_ok {s t : State} {c : Bool} (h : s.skip c = .ok t) : t = { s with pc := t.pc } := by
  unfold State.skip at h
  cases c with
  | false => cases h; rfl
  | true =>
    simp only [if_true] at h
    cases hw : s.nextWord with
    | error f => rw [hw] at h; cases h
    | ok w => rw [hw] at h; cases h; rfl

/-- A program-memory load changes one register and pc. -/
theorem State.loadProg_ok {s t : State} {d : Reg} {b : Nat} (h : s.loadProg d b = .ok t) :
    ∃ v, s.progByte b = .ok v ∧ t = (s.setReg d v).advance 1 := by
  unfold State.loadProg at h
  cases hb : s.progByte b with
  | error f => rw [hb] at h; cases h
  | ok v => rw [hb] at h; cases h; exact ⟨v, rfl, rfl⟩

/-- An effect that may fault gives a next state exactly when it answers ok. -/
theorem orFault_next {r : Except Fault State} {t : State} : orFault r = .next t ↔ r = .ok t := by
  cases r <;> simp [orFault]

/-- An instruction of an optional group gives a next state only on a part that has the group. -/
theorem ifPresent_next {b : Bool} {i : Instr} {s t : State} {k : Host.Outcome State Fault Refusal}
    (h : ifPresent b i s k = .next t) : b = true ∧ k = .next t := by
  unfold ifPresent at h
  split at h
  · exact ⟨‹_›, h⟩
  · cases h

/-- A pointer-updating form gives a next state only when its data register is outside the pointer. -/
theorem unlessInPointer_next {p d : Reg} {i : Instr} {s t : State} {k : Host.Outcome State Fault Refusal}
    (h : unlessInPointer p d i s k = .next t) : inPair p d = false ∧ k = .next t := by
  unfold unlessInPointer at h
  split at h
  · cases h
  · rename_i hn; exact ⟨by simpa using hn, h⟩

/-- What entering an interrupt leaves: the vector in pc, I clear. -/
theorem State.enterInterrupt_ok {s t : State} {src : IrqSource} {n : Nat} (h : s.enterInterrupt src n = .ok t) :
    t.part = s.part ∧ t.pc = pcMod s.part src.vector ∧ t.sreg.getLsbD 7 = false ∧ t.prog = s.prog ∧
      t.stopped = s.stopped := by
  unfold State.enterInterrupt at h
  cases hp : ({ s with sleeping := false } : State).pushPc s.pc with
  | error f => rw [hp] at h; cases h
  | ok u =>
    rw [hp] at h
    cases h
    have f1 := State.pushPc_frame hp
    have hb := getLsbD_sregWithBit u.sreg 7 7 false
    simp at f1
    simp [f1]
    exact hb

/-- What returning from an interrupt leaves: the popped address in pc, I and `irq_delay` set. -/
theorem State.leaveInterrupt_ok {s t : State} (h : s.leaveInterrupt = .ok t) :
    ∃ a u, s.popPc = .ok (a, u) ∧ t = { u with sreg := sregWithBit u.sreg 7 true, irqDelay := .set }.jump a := by
  unfold State.leaveInterrupt at h
  cases hp : s.popPc with
  | error f => rw [hp] at h; cases h
  | ok u => rw [hp] at h; cases h; exact ⟨u.1, u.2, rfl, rfl⟩

end Sys2Proof.Machine
end

