-- ==== Sys2Proof/Laws/Operands.lean ====
section
/-! SUPPORT. The operand forms said once: how an effect that may fault goes through its parts, and what a load, a store, a
call, a branch and a read-modify-write of an SFR are made of when they answer. -/

namespace Sys2Proof.Machine

/-- A chain of two effects answers ok exactly when both do. -/
theorem bind_ok {α β : Type} {x : Except Fault α} {f : α → Except Fault β} {b : β} (h : x.bind f = .ok b) :
    ∃ a, x = .ok a ∧ f a = .ok b := by
  cases x with
  | error e => cases h
  | ok a => exact ⟨a, rfl, h⟩

/-- A load reads its address, writes its register and goes on. -/
theorem State.load_ok {s t : State} {d : Reg} {a : Word} {n : PcWord} (h : s.load d a n = .ok t) :
    ∃ v u, s.memRead a = .ok (v, u) ∧ t = (u.setReg d v).advance n := by
  obtain ⟨⟨v, u⟩, h1, h2⟩ := bind_ok h
  cases h2
  exact ⟨v, u, h1, rfl⟩

/-- A post-increment load reads at the old pointer, writes its register, then the pointer plus 1. -/
theorem State.loadInc_ok {s t : State} {d p : Reg} (h : s.loadInc d p = .ok t) :
    ∃ v u, s.memRead (s.pair p) = .ok (v, u) ∧ t = ((u.setReg d v).setPair p (s.pair p + 1)).advance 1 := by
  obtain ⟨⟨v, u⟩, h1, h2⟩ := bind_ok h
  cases h2
  exact ⟨v, u, h1, rfl⟩

/-- A pre-decrement load writes the pointer minus 1, reads there and writes its register. -/
theorem State.loadDec_ok {s t : State} {d p : Reg} (h : s.loadDec d p = .ok t) :
    ∃ v u, (s.setPair p (s.pair p - 1)).memRead (s.pair p - 1) = .ok (v, u) ∧ t = (u.setReg d v).advance 1 := by
  obtain ⟨⟨v, u⟩, h1, h2⟩ := bind_ok h
  cases h2
  exact ⟨v, u, h1, rfl⟩

/-- A store writes its register at its address and goes on. -/
theorem State.store_ok {s t : State} {a : Word} {r : Reg} {n : PcWord} (h : s.store a r n = .ok t) :
    ∃ u, s.memWrite a (s.reg r) = .ok u ∧ t = u.advance n := by
  obtain ⟨u, h1, h2⟩ := bind_ok h
  cases h2
  exact ⟨u, h1, rfl⟩

/-- A post-increment store writes at the old pointer, then the pointer plus 1. -/
theorem State.storeInc_ok {s t : State} {p r : Reg} (h : s.storeInc p r = .ok t) :
    ∃ u, s.memWrite (s.pair p) (s.reg r) = .ok u ∧ t = (u.setPair p (s.pair p + 1)).advance 1 := by
  obtain ⟨u, h1, h2⟩ := bind_ok h
  cases h2
  exact ⟨u, h1, rfl⟩

/-- A pre-decrement store writes the pointer minus 1 and stores there. -/
theorem State.storeDec_ok {s t : State} {p r : Reg} (h : s.storeDec p r = .ok t) :
    ∃ u, (s.setPair p (s.pair p - 1)).memWrite (s.pair p - 1) ((s.setPair p (s.pair p - 1)).reg r) = .ok u ∧
      t = u.advance 1 := by
  obtain ⟨u, h1, h2⟩ := bind_ok h
  cases h2
  exact ⟨u, h1, rfl⟩

/-- A call pushes the return address and jumps. -/
theorem State.call_ok {s t : State} {n a : PcWord} (h : s.call n a = .ok t) :
    ∃ u, s.pushPc (s.pcPlus n) = .ok u ∧ t = u.jump a := by
  obtain ⟨u, h1, h2⟩ := bind_ok h
  cases h2
  exact ⟨u, h1, rfl⟩

/-- A branch changes pc alone. -/
theorem State.branch_eq (s : State) (c : Bool) (k : BitVec 7) :
    s.branch c k = { s with pc := pcMod s.part (s.pc + (if c then k.signExtend 22 else 0) + 1) } := by
  cases c <;> simp [State.branch, State.jump, State.advance, State.target7]

/-- A read-modify-write of an SFR is its read, its write and the advance. -/
theorem State.modifySfr_ok {s t : State} {a : BitVec 5} {b : BitVec 3} {v : Bool} (h : s.modifySfr a b v = .ok t) :
    ∃ x u w, s.ioRead (sfrAddr a.toNat) = .ok (x, u) ∧
      u.ioWrite (sfrAddr a.toNat) (byteWithBit x b v) = .ok w ∧ t = w.advance 1 := by
  obtain ⟨⟨x, u⟩, h1, h2⟩ := bind_ok h
  obtain ⟨w, h3, h4⟩ := bind_ok h2
  cases h4
  exact ⟨x, u, w, h1, h3, rfl⟩

end Sys2Proof.Machine
end

