-- ==== Sys2Proof/Laws/Invariant.lean ====
section
/-! SUPPORT. The machine's invariant under each shared operation: every named operation over registers, memory, SFRs, the
stack and the interrupt requests keeps it, and keeps the part and the program memory. -/

namespace Sys2Proof.Machine

/-- The invariant as it holds within an instruction too, and the part and the program memory are p and m. -/
def InvOn (p : Part) (m : Memory) (t : State) : Prop := t.Sound ∧ t.part = p ∧ t.prog = m

/-- A reduced program-counter value has `PC_BITS` bits (R25). -/
theorem pcMod_lt (p : Part) (a : PcWord) : (pcMod p a).toNat < pcSpan p := by
  unfold pcMod pcSpan; cases p.pcWidth
  · simp; omega
  · simp; exact a.isLt

/-- A reduced stack-pointer value has `SP_BITS` bits (R74). -/
theorem spMod_lt (p : Part) (a : Word) : (spMod p a).toNat < spSpan p := by
  unfold spMod spSpan; cases p.spWidth
  · simp; omega
  · simp; exact a.isLt

/-- `setReg` keeps the invariant. -/
theorem InvOn.setReg {p m s} (h : InvOn p m s) (d v) : InvOn p m (s.setReg d v) := by
  obtain ⟨⟨_,_,_,_,_,_,_,_,_,_,_⟩,_,_⟩ := h
  refine ⟨⟨?_,?_,?_,?_,?_,?_,?_,?_,?_,?_,?_⟩,?_,?_⟩ <;> assumption

/-- `setPair` keeps the invariant. -/
theorem InvOn.setPair {p m s} (h : InvOn p m s) (d v) : InvOn p m (s.setPair d v) := (h.setReg _ _).setReg _ _

/-- `setSreg` keeps the invariant. -/
theorem InvOn.setSreg {p m s} (h : InvOn p m s) (v) : InvOn p m (s.setSreg v) := by
  obtain ⟨⟨_,_,_,_,_,_,_,_,_,_,_⟩,_,_⟩ := h
  refine ⟨⟨?_,?_,?_,?_,?_,?_,?_,?_,?_,?_,?_⟩,?_,?_⟩ <;> assumption

/-- `jump` keeps the invariant. -/
theorem InvOn.jump {p m s} (h : InvOn p m s) (v) : InvOn p m (s.jump v) := by
  obtain ⟨⟨_,_,_,_,_,_,_,_,_,_,_⟩,_,_⟩ := h
  refine ⟨⟨?_,pcMod_lt _ _,?_,?_,?_,?_,?_,?_,?_,?_,?_⟩,?_,?_⟩ <;> assumption

/-- `advance` keeps the invariant. -/
theorem InvOn.advance {p m s} (h : InvOn p m s) (v) : InvOn p m (s.advance v) := h.jump _

/-- `setSp` keeps the invariant. -/
theorem InvOn.setSp {p m s} (h : InvOn p m s) (v) : InvOn p m (s.setSp v) := by
  obtain ⟨⟨_,_,_,_,_,_,_,_,_,_,_⟩,_,_⟩ := h
  refine ⟨⟨?_,?_,spMod_lt _ _,?_,?_,?_,?_,?_,?_,?_,?_⟩,?_,?_⟩ <;> assumption

/-- `observe` keeps the invariant. -/
theorem InvOn.observe {p m s} (h : InvOn p m s) (v) : InvOn p m (s.observe v) := by
  obtain ⟨⟨_,_,_,_,_,_,_,_,_,_,_⟩,_,_⟩ := h
  refine ⟨⟨?_,?_,?_,?_,?_,?_,?_,?_,?_,?_,?_⟩,?_,?_⟩ <;> assumption

/-- `drawn` keeps the invariant. -/
theorem InvOn.drawn {p m s} (h : InvOn p m s) : InvOn p m (s.drawn) := by
  obtain ⟨⟨_,_,_,_,_,_,_,_,_,_,_⟩,_,_⟩ := h
  refine ⟨⟨?_,?_,?_,?_,?_,?_,?_,?_,?_,?_,?_⟩,?_,?_⟩ <;> assumption

/-- Fields the invariant does not speak of may change. -/
theorem InvOn.misc {p m s} (h : InvOn p m s) (sr rz e mc : Byte) (dl : IrqDelay) (sl : Bool) (n) :
    InvOn p m { s with
      sreg := sr, rampz := rz, eind := e, mcucr := mc, irqDelay := dl, sleeping := sl, draws := n } := by
  obtain ⟨⟨_,_,_,_,_,_,_,_,_,_,_⟩,_,_⟩ := h
  refine ⟨⟨?_,?_,?_,?_,?_,?_,?_,?_,?_,?_,?_⟩,?_,?_⟩ <;> assumption

/-- `setSfrByte` keeps the invariant. -/
theorem InvOn.setSfrByte {p m s} (h : InvOn p m s) (a v) (h1 : 0x20 ≤ a) (h2 : a < p.sramStart) :
    InvOn p m (s.setSfrByte a v) := by
  obtain ⟨⟨_,_,_,_,_,_,_,_,_,_,_⟩,hp,_⟩ := h
  refine ⟨⟨?_,?_,?_,Memory.write_wf ‹_›,Memory.write_within ‹_› h1 (by simp [hp, h2]),?_,?_,?_,?_,?_,?_⟩,?_,?_⟩ <;>
    assumption

/-- Writing an SRAM byte keeps the invariant. -/
theorem InvOn.sramW {p m s} (h : InvOn p m s) (a v) (h1 : p.sramStart ≤ a) (h2 : a < p.ramEnd + 1) :
    InvOn p m {s with sram := Memory.write none s.sram a v} := by
  obtain ⟨⟨_,_,_,_,_,_,_,_,_,_,_⟩,hp,_⟩ := h
  refine ⟨⟨?_,?_,?_,?_,?_,Memory.write_wf ‹_›,Memory.write_within ‹_› (by simpa [hp]) (by rw [hp]; exact h2),?_,?_,?_,?_⟩,?_,?_⟩ <;>
    assumption

/-- A list above b is above every a that is at most b. -/
theorem risesAbove_mono {a b : Nat} (h : a ≤ b) : ∀ l, risesAbove b l = true → risesAbove a l = true
  | [], _ => rfl
  | n :: l, h' => by simp [risesAbove] at *; exact ⟨by omega, h'.2⟩

/-- Filtering keeps a list strictly rising above a. -/
theorem risesAbove_filter (q : Nat → Bool) :
    ∀ (l : List Nat) (a : Nat), risesAbove a l = true → risesAbove a (l.filter q) = true
  | [], _, _ => rfl
  | n :: l, a, h => by
    simp [risesAbove] at h
    have := risesAbove_filter q l n h.2
    by_cases hq : q n
    · simp [hq, risesAbove, h.1, this]
    · simp [hq]; exact risesAbove_mono (by omega) _ this

/-- Filtering keeps a list strictly rising. -/
theorem rising_filter (q : Nat → Bool) (l : List Nat) (h : strictlyRising l = true) :
    strictlyRising (l.filter q) = true := by
  cases l with
  | nil => rfl
  | cons n l =>
    simp [strictlyRising] at h
    have := risesAbove_filter q l n h
    by_cases hq : q n
    · simp [hq, strictlyRising, this]
    · simp [hq]
      revert this; cases l.filter q with
      | nil => intro; rfl
      | cons b l => simp [risesAbove, strictlyRising]

/-- A range of numbers rises above every smaller number. -/
theorem range_rises (n k a : Nat) (h : a < k) : risesAbove a (List.range' k n) = true := by
  induction n generalizing k a with
  | zero => rfl
  | succ n ih => simp [List.range', risesAbove, h]; exact ih _ _ (by omega)

/-- The numbers 0..n-1 strictly rise. -/
theorem range_rising (n : Nat) : strictlyRising (List.range n) = true := by
  rw [List.range_eq_range']
  cases n with
  | zero => rfl
  | succ n => simp [List.range', strictlyRising]; exact range_rises _ _ _ (by omega)

/-- Dropping pending requests keeps the invariant. -/
theorem InvOn.pendFilter {p m s} (h : InvOn p m s) (q) : InvOn p m {s with irqPending := s.irqPending.filter q} := by
  obtain ⟨⟨_,_,_,_,_,_,_,_,hh,_,_⟩,_,_⟩ := h
  refine ⟨⟨?_,?_,?_,?_,?_,?_,?_,?_,⟨rising_filter _ _ hh.1, fun n hn => hh.2 n (List.mem_filter.1 hn).1⟩,?_,?_⟩,?_,?_⟩ <;>
    assumption

/-- `withdraw` keeps the invariant. -/
theorem InvOn.withdraw {p m s} (h : InvOn p m s) (a v) : InvOn p m (s.withdraw a v) := h.pendFilter _

/-- `coreWrite` keeps the invariant. -/
theorem InvOn.coreWrite {p m s} (h : InvOn p m s) (c v) : InvOn p m (s.coreWrite c v) := by
  cases c
  · unfold State.coreWrite State.writeSreg; simp only; split
    · exact h.misc _ s.rampz s.eind s.mcucr _ s.sleeping _
    · exact h.setSreg _
  · exact h.setSp _
  · exact h.setSp _
  · exact h.misc s.sreg s.rampz _ s.mcucr s.irqDelay s.sleeping s.draws
  · exact h.misc s.sreg _ _ s.mcucr s.irqDelay s.sleeping s.draws
  · exact h.misc s.sreg _ _ _ s.irqDelay s.sleeping s.draws

/-- `setSfrView` keeps the invariant. -/
theorem InvOn.setSfrView {p m s} (h : InvOn p m s) (a v) (h1 : 0x20 ≤ a) (h2 : a < p.sramStart) :
    InvOn p m (s.setSfrView a v) := by
  unfold State.setSfrView
  split
  · exact h.coreWrite _ _
  · exact h.setSfrByte _ _ h1 h2

/-- SRAM starts above the SFRs (R62). -/
theorem InvOn.start {p m s} (h : InvOn p m s) :
    0x60 ≤ p.sramStart := by have := h.1.part; rw [h.2.1] at this; exact this.2.2.1

/-- Raising or withdrawing a request keeps the invariant. -/
theorem InvOn.setRequest {p m s} (h : InvOn p m s) (n b) : InvOn p m (s.setRequest n b) := by
  obtain ⟨⟨_,_,_,_,_,_,_,_,_,_,_⟩,_,_⟩ := h
  refine ⟨⟨?_,?_,?_,?_,?_,?_,?_,?_,⟨rising_filter _ _ (range_rising _), fun n hn => ?_⟩,?_,?_⟩,?_,?_⟩
  all_goals first | assumption | exact List.mem_range.1 (List.mem_filter.1 hn).1

/-- Changing one cell keeps the invariant. -/
theorem InvOn.setCell {p m s} (h : InvOn p m s) (c v) : InvOn p m (s.setCell c v) := by
  have hs := h.start
  cases c with
  | data a =>
    simp only [State.setCell]
    split
    · exact h.setReg _ _
    · rename_i hp
      have hp := dataPlace_sfr hp
      rw [h.2.1] at hp
      exact h.setSfrView _ _ (by omega) (by omega)
    · rename_i hp
      have hp := dataPlace_sram hp
      rw [h.2.1] at hp
      exact h.sramW _ _ (by omega) (by omega)
    · exact h
  | request n => exact h.setRequest _ _
  | sleeping => exact h.misc s.sreg s.rampz s.eind s.mcucr s.irqDelay _ s.draws
  | irqDelay => exact h.misc s.sreg s.rampz s.eind s.mcucr _ s.sleeping s.draws
  | watchdog =>
    obtain ⟨⟨_,_,_,_,_,_,_,_,_,_,hc⟩,_,_⟩ := h
    refine ⟨⟨?_,?_,?_,?_,?_,?_,?_,?_,?_,?_,fun hw => ?_⟩,?_,?_⟩
    all_goals first | assumption | skip
    simp only [State.setCell] at hw ⊢
    rw [hw]
    exact hc hw

/-- `applyEffects` keeps the invariant. -/
theorem InvOn.applyEffects {p m s} (h : InvOn p m s) (w es) : InvOn p m (s.applyEffects w es) := by
  unfold State.applyEffects
  generalize (es.map fun e => (e.cell, s.ioValue w e.value)) = l
  induction l generalizing s with
  | nil => exact h
  | cons c l ih => exact ih (h.setCell c.1 c.2)

/-- `ioRead` keeps the invariant. -/
theorem InvOn.ioRead {p m s t a v} (h : InvOn p m s) (h1 : 0x20 ≤ a) (h2 : a < p.sramStart) (e : s.ioRead a = .ok (v, t)) :
    InvOn p m t := by
  rcases State.ioRead_cases e with ⟨c, _, _, rfl⟩ | ⟨_, ⟨_, _, rfl⟩ | ⟨_, _, rfl⟩ | ⟨_, _, rfl⟩ | ⟨b, _, _, rfl⟩⟩
  · exact h.observe _
  · exact h.observe _
  · exact (h.observe _).drawn
  · exact ((h.setSfrView _ _ h1 h2).observe _).drawn
  · exact ((h.applyEffects _ _).observe _).drawn

/-- `ioWrite` keeps the invariant. -/
theorem InvOn.ioWrite {p m s t a v} (h : InvOn p m s) (h1 : 0x20 ≤ a) (h2 : a < p.sramStart) (e : s.ioWrite a v = .ok t) :
    InvOn p m t := by
  rcases State.ioWrite_cases e with ⟨c, _, rfl⟩ | ⟨_, ⟨_, rfl⟩ | ⟨_, rfl⟩ | ⟨_, rfl⟩ | ⟨b, _, rfl⟩⟩
  · exact (h.coreWrite _ _).observe _
  · exact (h.setSfrByte _ _ h1 h2).observe _
  · exact h.observe _
  · exact ((h.setSfrView _ _ h1 h2).withdraw _ _).observe _
  · exact ((h.applyEffects _ _).observe _).drawn

/-- `memRead` keeps the invariant. -/
theorem InvOn.memRead {p m s t a v} (h : InvOn p m s) (e : s.memRead a = .ok (v, t)) : InvOn p m t := by
  have := h.start
  rcases State.memRead_cases e with ⟨_, _, _, rfl⟩ | ⟨h1, e⟩ | ⟨_, _, rfl⟩
  · exact h
  · have h2 := dataPlace_sfr h1; rw [h.2.1] at h2
    exact h.ioRead (by omega) (by omega) e
  · exact h

/-- `memWrite` keeps the invariant. -/
theorem InvOn.memWrite {p m s t a v} (h : InvOn p m s) (e : s.memWrite a v = .ok t) : InvOn p m t := by
  have := h.start
  rcases State.memWrite_cases e with ⟨_, _, rfl⟩ | ⟨h1, e⟩ | ⟨h1, rfl⟩
  · exact h.setReg _ _
  · have h2 := dataPlace_sfr h1; rw [h.2.1] at h2
    exact h.ioWrite (by omega) (by omega) e
  · have h2 := dataPlace_sram h1; rw [h.2.1] at h2
    exact h.sramW _ _ (by omega) (by omega)

/-- `push8` keeps the invariant. -/
theorem InvOn.push8 {p m s t v} (h : InvOn p m s) (e : s.push8 v = .ok t) : InvOn p m t := by
  unfold State.push8 at e
  cases hw : s.memWrite s.sp v with
  | error f => rw [hw] at e; cases e
  | ok u => rw [hw] at e; cases e; exact (h.memWrite hw).setSp _

/-- `pop8` keeps the invariant. -/
theorem InvOn.pop8 {p m s t v} (h : InvOn p m s) (e : s.pop8 = .ok (v, t)) : InvOn p m t := (h.setSp _).memRead e

/-- `pushPc` keeps the invariant. -/
theorem InvOn.pushPc {p m s t v} (h : InvOn p m s) (e : s.pushPc v = .ok t) : InvOn p m t := by
  unfold State.pushPc at e
  obtain ⟨u, h1, e⟩ := bind_ok e
  obtain ⟨w, h2, e⟩ := bind_ok e
  have := (h.push8 h1).push8 h2
  cases hw : s.part.pcWidth <;> rw [hw] at e
  · cases e; exact this
  · exact this.push8 e

/-- `popPc` keeps the invariant. -/
theorem InvOn.popPc {p m s t v} (h : InvOn p m s) (e : s.popPc = .ok (v, t)) : InvOn p m t := by
  unfold State.popPc at e
  split at e
  · obtain ⟨u, h1, e⟩ := bind_ok e
    obtain ⟨w, h2, e⟩ := bind_ok e
    cases e; exact (h.pop8 h1).pop8 h2
  · obtain ⟨u, h1, e⟩ := bind_ok e
    obtain ⟨w, h2, e⟩ := bind_ok e
    obtain ⟨x, h3, e⟩ := bind_ok e
    cases e; exact ((h.pop8 h1).pop8 h2).pop8 h3

/-- `skip` keeps the invariant. -/
theorem InvOn.skip {p m s t c} (h : InvOn p m s) (e : s.skip c = .ok t) : InvOn p m t := by
  unfold State.skip at e
  split at e
  · obtain ⟨u, h1, e⟩ := bind_ok e
    cases e; exact h.advance _
  · cases e; exact h.advance _

/-- `receiveRequests` keeps the invariant. -/
theorem InvOn.recv {p m s} (h : InvOn p m s) : InvOn p m s.receiveRequests := by
  unfold State.receiveRequests
  split
  · exact h
  · obtain ⟨⟨_,_,_,_,_,_,_,_,hh,_,_⟩,_,_⟩ := h; refine ⟨⟨?_,?_,?_,?_,?_,?_,?_,?_,⟨rising_filter _ _ (range_rising _), fun n hn => by simpa using (List.mem_filter.1 hn).1⟩,?_,?_⟩,?_,?_⟩ <;> assumption

-- The delay at a boundary (R411): no operation puts `irq_delay` in the middle of an instruction.

/-- No `irq_delay` is in the middle of its instruction. -/
def NotEnding (s : State) : Prop := s.irqDelay ≠ .ending

/-- After an instruction has completed no `irq_delay` is in the middle of one. -/
theorem notEnding_complete (s : State) : NotEnding s.complete := by
  unfold NotEnding
  rw [State.complete_irqDelay]
  split
  · decide
  · assumption

/-- Counting cycles leaves the delay. -/
theorem NotEnding.charge {s} (h : NotEnding s) (n) : NotEnding (s.charge n) := h

/-- A write of an architectural register starts a delay or leaves it. -/
theorem NotEnding.coreWrite {s} (h : NotEnding s) (c v) : NotEnding (s.coreWrite c v) := by
  cases c <;> try exact h
  unfold State.coreWrite State.writeSreg
  simp only
  split
  · unfold NotEnding; simp only; split
    · decide
    · exact h
  · exact h

/-- A change of an SFR's byte starts a delay or leaves it. -/
theorem NotEnding.setSfrView {s} (h : NotEnding s) (a v) : NotEnding (s.setSfrView a v) := by
  unfold State.setSfrView
  split
  · exact h.coreWrite _ _
  · exact h

/-- A change of a cell starts a delay, ends it or leaves it. -/
theorem NotEnding.setCell {s} (h : NotEnding s) (c v) : NotEnding (s.setCell c v) := by
  cases c with
  | data a =>
    simp only [State.setCell]
    split
    · exact h
    · exact h.setSfrView _ _
    · exact h
    · exact h
  | irqDelay => unfold NotEnding State.setCell; simp only; split <;> decide
  | _ => exact h

/-- The effects of an access start a delay, end it or leave it. -/
theorem NotEnding.applyEffects {s} (h : NotEnding s) (w es) : NotEnding (s.applyEffects w es) := by
  unfold State.applyEffects
  generalize (es.map fun e => (e.cell, s.ioValue w e.value)) = l
  induction l generalizing s with
  | nil => exact h
  | cons c l ih => exact ih (h.setCell c.1 c.2)

/-- A write at any data-space address starts a delay, ends it or leaves it. -/
theorem NotEnding.memWrite {s t a v} (h : NotEnding s) (e : s.memWrite a v = .ok t) : NotEnding t := by
  rcases State.memWrite_cases e with ⟨_, _, rfl⟩ | ⟨_, e⟩ | ⟨_, rfl⟩
  · exact h
  · rcases State.ioWrite_cases e with ⟨c, _, rfl⟩ | ⟨_, ⟨_, rfl⟩ | ⟨_, rfl⟩ | ⟨_, rfl⟩ | ⟨b, _, rfl⟩⟩
    · exact h.coreWrite _ _
    · exact h
    · exact h
    · exact h.setSfrView _ _
    · exact h.applyEffects _ _
  · exact h

/-- A push starts a delay, ends it or leaves it. -/
theorem NotEnding.push8 {s t v} (h : NotEnding s) (e : s.push8 v = .ok t) : NotEnding t := by
  obtain ⟨u, h1, e⟩ := bind_ok e
  cases e
  have hu : NotEnding u := h.memWrite h1
  exact hu

/-- The entry of an interrupt leaves no delay in the middle of an instruction. -/
theorem NotEnding.enterInterrupt {s t src n} (h : NotEnding s) (e : s.enterInterrupt src n = .ok t) : NotEnding t := by
  obtain ⟨u, h1, e⟩ := bind_ok e
  cases e
  unfold State.pushPc at h1
  obtain ⟨v, h2, h1⟩ := bind_ok h1
  obtain ⟨w, h3, h1⟩ := bind_ok h1
  have hv : NotEnding v := NotEnding.push8 (s := { s with sleeping := false }) h h2
  have hw : NotEnding w := hv.push8 h3
  have hu : NotEnding u := by
    split at h1
    · cases h1; exact hw
    · exact hw.push8 h1
  exact hu

end Sys2Proof.Machine
end

