-- ==== Sys2Proof/Machine/Assembler.lean ====
section
/-! DEFINITION. The assembler's part of the instruction set: statements with their operands in source order to
instructions, relative distances, negative constants, register pair spellings, constants in program memory
(30_encoding.md R105, R106, R115 to R119; 20_memory.md R83). No step of the machine depends on this file. -/

namespace Sys2Proof.Machine

/-- The three pointer registers (R21). -/
inductive Pointer where
  | x
  | y
  | z
deriving DecidableEq, Repr

/-- An operand as written (R115): a register, a pair `Rd+1:Rd`, a constant or an address (a label stands for its word
address), a pointer plain, with `+` after it or `-` before it, a pointer with displacement. -/
inductive Operand where
  | reg (n : Nat)
  | pair (hi lo : Nat)
  | num (n : Int)
  | ptr (p : Pointer)
  | ptrInc (p : Pointer)
  | ptrDec (p : Pointer)
  | disp (p : Pointer) (q : Int)
deriving DecidableEq, Repr

/-- `LOW(e)` (R83). -/
def asmLow (e : Int) : Int := e % 256

/-- `HIGH(e)` (R83). -/
def asmHigh (e : Int) : Int := e / 256 % 256

/-- A register operand R0..R31. -/
def asmReg : Operand → Option Reg
  | .reg n => if n < 32 then some (BitVec.ofNat 5 n) else none
  | _ => none

/-- A pair operand, written high:low or by its low register alone (R118). -/
def asmPair : Operand → Option Reg
  | .reg n => if n < 31 then some (BitVec.ofNat 5 n) else none
  | .pair hi lo => if hi = lo + 1 ∧ lo < 31 then some (BitVec.ofNat 5 lo) else none
  | _ => none

/-- An unsigned constant of n bits (R105 to R107). -/
def asmUnsigned (n : Nat) : Operand → Option (BitVec n)
  | .num k => if 0 ≤ k ∧ k < 2 ^ n then some (BitVec.ofInt n k) else none
  | _ => none

/-- An 8-bit constant 0..255, or -128..-1 of which the low 8 bits are taken (R105). -/
def asmConstant : Operand → Option Byte
  | .num k => if -128 ≤ k ∧ k < 256 then some (BitVec.ofInt 8 k) else none
  | _ => none

/-- The distance k of a relative transfer at word address pc to a target: target - pc - 1, in n bits of two's
complement (R106, R242). -/
def asmDistance (n pc : Nat) : Operand → Option (BitVec n)
  | .num target =>
    let k := target - pc - 1
    if -2 ^ (n - 1) ≤ k ∧ k < 2 ^ (n - 1) then some (BitVec.ofInt n k) else none
  | _ => none

/-- Mnemonics without operands. -/
def asmPlain : List (String × Instr) :=
  [("nop", .nop), ("ijmp", .ijmp), ("eijmp", .eijmp), ("ret", .ret), ("icall", .icall), ("reti", .reti),
    ("eicall", .eicall), ("sleep", .sleep), ("break", .break_), ("wdr", .wdr), ("lpm", .lpm), ("elpm", .elpm),
    ("spm", .spm), ("sec", .sec), ("sez", .sez), ("sen", .sen), ("sev", .sev), ("ses", .ses), ("seh", .seh),
    ("set", .set_), ("sei", .sei), ("clc", .clc), ("clz", .clz), ("cln", .cln), ("clv", .clv), ("cls", .cls),
    ("clh", .clh), ("clt", .clt), ("cli", .cli)]

/-- Mnemonics with one register. -/
def asmOneReg : List (String × (Reg → Instr)) :=
  [("pop", .pop), ("push", .push), ("com", .com), ("neg", .neg), ("swap", .swap), ("inc", .inc), ("asr", .asr),
    ("lsr", .lsr), ("ror", .ror), ("dec", .dec), ("clr", .clr), ("ser", .ser), ("tst", .tst), ("lsl", .lsl),
    ("rol", .rol)]

/-- Mnemonics with two registers. -/
def asmTwoRegs : List (String × (Reg → Reg → Instr)) :=
  [("muls", .muls), ("mulsu", .mulsu), ("fmul", .fmul), ("fmuls", .fmuls), ("fmulsu", .fmulsu), ("cpc", .cpc),
    ("sbc", .sbc), ("add", .add), ("cpse", .cpse), ("cp", .cp), ("sub", .sub), ("adc", .adc), ("and", .and_),
    ("eor", .eor), ("or", .or_), ("mov", .mov), ("mul", .mul)]

/-- Mnemonics with a register and an 8-bit constant. -/
def asmRegConstant : List (String × (Reg → Byte → Instr)) :=
  [("cpi", .cpi), ("sbci", .sbci), ("subi", .subi), ("ori", .ori), ("andi", .andi), ("ldi", .ldi), ("cbr", .cbr),
    ("sbr", .sbr)]

/-- Mnemonics with a register and a bit number. -/
def asmRegBit : List (String × (Reg → BitVec 3 → Instr)) :=
  [("bld", .bld), ("bst", .bst), ("sbrc", .sbrc), ("sbrs", .sbrs)]

/-- Mnemonics with an SFR number 0..31 and a bit number. -/
def asmSfrBit : List (String × (BitVec 5 → BitVec 3 → Instr)) :=
  [("cbi", .cbi), ("sbic", .sbic), ("sbi", .sbi), ("sbis", .sbis)]

/-- Mnemonics with a bit of SREG. -/
def asmFlagBit : List (String × (BitVec 3 → Instr)) := [("bset", .bset), ("bclr", .bclr)]

/-- Mnemonics with a bit of SREG and a target. -/
def asmFlagBranch : List (String × (BitVec 3 → BitVec 7 → Instr)) := [("brbs", .brbs), ("brbc", .brbc)]

/-- Branch mnemonics with a target (R242). -/
def asmBranch : List (String × (BitVec 7 → Instr)) :=
  [("brcc", .brcc), ("brcs", .brcs), ("brsh", .brsh), ("brlo", .brlo), ("brne", .brne), ("breq", .breq),
    ("brpl", .brpl), ("brmi", .brmi), ("brvc", .brvc), ("brvs", .brvs), ("brge", .brge), ("brlt", .brlt),
    ("brhc", .brhc), ("brhs", .brhs), ("brtc", .brtc), ("brts", .brts), ("brid", .brid), ("brie", .brie),
    ("bric", .bric)]

/-- Mnemonics with a 12-bit relative target. -/
def asmRelative : List (String × (BitVec 12 → Instr)) := [("rjmp", .rjmp), ("rcall", .rcall)]

/-- Mnemonics with an absolute target. -/
def asmAbsolute : List (String × (BitVec 22 → Instr)) := [("jmp", .jmp), ("call", .call)]

/-- Mnemonics with a register pair and a 6-bit constant. -/
def asmPairConstant : List (String × (Reg → BitVec 6 → Instr)) := [("adiw", .adiw), ("sbiw", .sbiw)]

/-- The loads through a pointer, from the data space (`ld`, `ldd`) and the program memory (`lpm`, `elpm`). -/
def asmLoad (m : String) (d : Reg) (o : Operand) : Option Instr :=
  match o with
  | .ptr .x => if m = "ld" then some (.ldX d) else none
  | .ptr .y => if m = "ld" then some (.ldY d) else none
  | .ptr .z =>
    if m = "ld" then some (.ldZ d) else if m = "lpm" then some (.lpmRd d) else if m = "elpm" then some (.elpmRd d)
    else none
  | .ptrInc .x => if m = "ld" then some (.ldXInc d) else none
  | .ptrInc .y => if m = "ld" then some (.ldYInc d) else none
  | .ptrInc .z =>
    if m = "ld" then some (.ldZInc d) else if m = "lpm" then some (.lpmRdInc d)
    else if m = "elpm" then some (.elpmRdInc d) else none
  | .ptrDec .x => if m = "ld" then some (.ldXDec d) else none
  | .ptrDec .y => if m = "ld" then some (.ldYDec d) else none
  | .ptrDec .z => if m = "ld" then some (.ldZDec d) else none
  | .disp .y q => if m = "ldd" then (asmUnsigned 6 (.num q)).map (.lddY d) else none
  | .disp .z q => if m = "ldd" then (asmUnsigned 6 (.num q)).map (.lddZ d) else none
  | _ => none

/-- The stores through a pointer, the address written first (R115). -/
def asmStore (m : String) (o : Operand) (r : Reg) : Option Instr :=
  match o with
  | .ptr .x => if m = "st" then some (.stX r) else none
  | .ptr .y => if m = "st" then some (.stY r) else none
  | .ptr .z => if m = "st" then some (.stZ r) else none
  | .ptrInc .x => if m = "st" then some (.stXInc r) else none
  | .ptrInc .y => if m = "st" then some (.stYInc r) else none
  | .ptrInc .z => if m = "st" then some (.stZInc r) else none
  | .ptrDec .x => if m = "st" then some (.stXDec r) else none
  | .ptrDec .y => if m = "st" then some (.stYDec r) else none
  | .ptrDec .z => if m = "st" then some (.stZDec r) else none
  | .disp .y q => if m = "std" then (asmUnsigned 6 (.num q)).map (fun k => .stdY k r) else none
  | .disp .z q => if m = "std" then (asmUnsigned 6 (.num q)).map (fun k => .stdZ k r) else none
  | _ => none

/-- A statement with one operand, at word address pc. -/
def asmOne (pc : Nat) (m : String) (a : Operand) : Option Instr :=
  match asmOneReg.lookup m, asmFlagBit.lookup m, asmBranch.lookup m, asmRelative.lookup m, asmAbsolute.lookup m with
  | some f, _, _, _, _ => (asmReg a).map f
  | _, some f, _, _, _ => (asmUnsigned 3 a).map f
  | _, _, some f, _, _ => (asmDistance 7 pc a).map f
  | _, _, _, some f, _ => (asmDistance 12 pc a).map f
  | _, _, _, _, some f => (asmUnsigned 22 a).map f
  | _, _, _, _, _ => none

/-- A statement with two operands whose mnemonic has one shape, at word address pc. -/
def asmTwo (pc : Nat) (m : String) (a b : Operand) : Option Instr :=
  match asmTwoRegs.lookup m, asmRegConstant.lookup m, asmRegBit.lookup m, asmSfrBit.lookup m, asmFlagBranch.lookup m,
    asmPairConstant.lookup m with
  | some f, _, _, _, _, _ => (asmReg a).bind fun d => (asmReg b).map (f d)
  | _, some f, _, _, _, _ => (asmReg a).bind fun d => (asmConstant b).map (f d)
  | _, _, some f, _, _, _ => (asmReg a).bind fun d => (asmUnsigned 3 b).map (f d)
  | _, _, _, some f, _, _ => (asmUnsigned 5 a).bind fun n => (asmUnsigned 3 b).map (f n)
  | _, _, _, _, some f, _ => (asmUnsigned 3 a).bind fun n => (asmDistance 7 pc b).map (f n)
  | _, _, _, _, _, some f => (asmPair a).bind fun d => (asmUnsigned 6 b).map (f d)
  | _, _, _, _, _, _ =>
    if m = "movw" then (asmPair a).bind fun d => (asmPair b).map (.movw d)
    else if m = "in" then (asmReg a).bind fun d => (asmUnsigned 6 b).map (.in_ d)
    else if m = "out" then (asmUnsigned 6 a).bind fun n => (asmReg b).map (.out n)
    else if m = "lds" then (asmReg a).bind fun d => (asmUnsigned 16 b).map (.lds d)
    else if m = "sts" then (asmUnsigned 16 a).bind fun k => (asmReg b).map (.sts k)
    else if m = "st" ∨ m = "std" then (asmReg b).bind (asmStore m a)
    else (asmReg a).bind fun d => asmLoad m d b

/-- One statement in lower case at word address pc to its instruction (R115, R117, R118); a mnemonic that does not exist
(R119: `eori`, `addi`, `cpic`), an operand out of range or a register the encoding does not admit is rejected. -/
def assemble (pc : Nat) (m : String) (ops : List Operand) : Option Instr :=
  (match ops with
    | [] => asmPlain.lookup m
    | [a] => asmOne pc m a
    | [a, b] => asmTwo pc m a b
    | _ => none).filter Instr.wellFormed

/-- The words of a statement. -/
def assembleWords (pc : Nat) (m : String) (ops : List Operand) : Option (List Word) := (assemble pc m ops).map encode

/-- The words of `.DB` with the given bytes: the first at the even byte address, the low byte of its word (R66, R116);
the spec does not say what fills the last half word, so the number of bytes must be even. -/
def dbWords : List Byte → Option (List Word)
  | [] => some []
  | [_] => none
  | lo :: hi :: rest => (dbWords rest).map fun ws => (hi ++ lo) :: ws

end Sys2Proof.Machine
end

