-- ==== Sys2Proof/Tests/Slice0.lean ====
section
/-! SUPPORT. Tests on fixed values: ill-formed operands, one decoded word for every constructor, single steps taken from
the vectors of 95_test_vectors.md and 96_derived_vectors.md, and for each statement with hypotheses a state and operands
that meet them. -/

namespace Sys2Proof.Tests

open Sys2Proof.Machine

-- Small states.

/-- The machine of the vectors: the reference part with 64 K program words. -/
def base : State := { State.reset with part := { Part.reference with flashWords := 65536 } }

/-- A machine with a 22-bit PC, as the vectors use it: SRAM up to $21FF, SP there. -/
def wide : State :=
  { State.reset with
    part := { Part.reference with pcWidth := .bits22, flashWords := 4194304, ramEnd := 0x21FF, resetSp := 0x21FF }
    sp := 0x21FF }

/-- Registers set to values. -/
def put (l : List (Reg × Byte)) (s : State) : State := l.foldl (fun s p => s.setReg p.1 p.2) s

/-- SRAM bytes set to values. -/
def poke (l : List (Nat × Byte)) (s : State) : State :=
  { s with sram := l.foldl (fun m p => Memory.write none m p.1 p.2) s.sram }

/-- Words placed in the program memory from pc on. -/
def code (ws : List Word) (s : State) : State := ws.zipIdx.foldl (fun s p => s.loadWord (s.pc.toNat + p.2) p.1) s

/-- A start state: SREG and registers. -/
def start (sr : Byte) (l : List (Reg × Byte)) : State := { put l base with sreg := sr }

/-- SREG and registers at the end. -/
def ends (sr : Byte) (l : List (Reg × Byte)) (t : State) : Bool := t.sreg == sr && l.all fun p => t.reg p.1 == p.2

/-- SRAM bytes at the end. -/
def holds (l : List (Nat × Byte)) (t : State) : Bool := l.all fun p => t.sramByte p.1 == some p.2

/-- One step on the words at pc reaches a state with property p. -/
def runs (ws : List Word) (s : State) (p : State → Bool) : Bool :=
  match step (code ws s) with
  | .next t => p t
  | .fault _ => false
  | .refused _ => false

/-- One step on the words at pc is the fault f. -/
def faults (ws : List Word) (s : State) (f : Fault) : Bool :=
  match step (code ws s) with
  | .next _ => false
  | .fault g => decide (g = f)
  | .refused _ => false

/-- The one-word instruction w is i. -/
def decodes (w : Nat) (i : Instr) : Bool := decide (decodeTableWord 16 w = some i ∧ encode i = [BitVec.ofNat 16 w])

/-- The instruction with first word w and second word w2 is i. -/
def decodes2 (w w2 : Nat) (i : Instr) : Bool :=
  decide (decodeTableWord 32 (w + w2 * 65536) = some i ∧ encode i = [BitVec.ofNat 16 w, BitVec.ofNat 16 w2])

/-- The alias a has the word w, which decodes to i. -/
def aliasWord (w : Nat) (a i : Instr) : Bool :=
  decide (encode a = [BitVec.ofNat 16 w] ∧ decodeTableWord 16 w = some i ∧ a.expand = i)

-- Ill-formed operands are refused.

/-- R22, R104: each operand check refuses an operand outside its set, in the first and in the second place. -/
theorem test_ill_formed_refused :
    ([.ldi 15 0, .muls 15 16, .muls 16 15, .mulsu 24 16, .mulsu 16 15, .fmul 15 16, .fmuls 16 24, .fmulsu 24 24,
      .movw 1 0, .movw 0 31, .adiw 22 0, .sbiw 25 0, .ser 15, .cbr 0 1, .sbr 15 1, .cpi 7 1, .sbci 15 0, .subi 0 1,
      .ori 15 1, .andi 15 1] : List Instr).all (fun i => !i.wellFormed) = true := by decide

/-- R22: the ends of the sets are accepted. -/
theorem test_well_formed_ends :
    ((Instr.ldi 16 0).wellFormed && (Instr.mulsu 16 23).wellFormed && (Instr.muls 31 16).wellFormed &&
      (Instr.movw 30 0).wellFormed && (Instr.adiw 24 63).wellFormed && (Instr.sbiw 30 0).wellFormed) = true := by decide

/-- Words written out from the patterns of 30_encoding.md R111. -/
theorem test_decode_arithmetic :
    (decodes 0b0000_0101_0001_1010 (.cpc 17 10) &&
      decodes 0b0000_1001_0001_1010 (.sbc 17 10) &&
      decodes 0b0000_1101_0001_1010 (.add 17 10) &&
      decodes 0b0001_0101_0001_1010 (.cp 17 10) &&
      decodes 0b0001_1001_0001_1010 (.sub 17 10) &&
      decodes 0b0001_1101_0001_1010 (.adc 17 10) &&
      decodes 0b1001_1101_0001_1010 (.mul 17 10)) = true := by decide

/-- Words written out from the patterns of 30_encoding.md R111. -/
theorem test_decode_logic :
    (decodes 0b0010_0001_0001_1010 (.and_ 17 10) &&
      decodes 0b0010_0101_0001_1010 (.eor 17 10) &&
      decodes 0b0010_1001_0001_1010 (.or_ 17 10)) = true := by decide

/-- Words written out from the patterns of 30_encoding.md R111. -/
theorem test_decode_control_skips :
    (decodes 0b0001_0001_0001_1010 (.cpse 17 10) &&
      decodes 0b1001_1001_1001_1110 (.sbic 0x13 6) &&
      decodes 0b1001_1011_1001_1110 (.sbis 0x13 6) &&
      decodes 0b1111_1101_0010_0110 (.sbrc 18 6) &&
      decodes 0b1111_1111_0010_0110 (.sbrs 18 6)) = true := by decide

/-- Words written out from the patterns of 30_encoding.md R111. -/
theorem test_decode_moves :
    (decodes 0b0010_1101_0001_1010 (.mov 17 10) &&
      decodes 0b0000_0001_1001_0101 (.movw 18 10) &&
      decodes 0b1110_0001_1001_1110 (.ldi 25 0x1E)) = true := by decide

/-- Words written out from the patterns of 30_encoding.md R111. -/
theorem test_decode_multiply :
    (decodes 0b0000_0010_1001_0110 (.muls 25 22) &&
      decodes 0b0000_0011_0101_0010 (.mulsu 21 18) &&
      decodes 0b0000_0011_0101_1010 (.fmul 21 18) &&
      decodes 0b0000_0011_1101_0010 (.fmuls 21 18) &&
      decodes 0b0000_0011_1101_1010 (.fmulsu 21 18)) = true := by decide

/-- Words written out from the patterns of 30_encoding.md R111. -/
theorem test_decode_immediate :
    (decodes 0b0011_0001_1001_1110 (.cpi 25 0x1E) &&
      decodes 0b0100_0001_1001_1110 (.sbci 25 0x1E) &&
      decodes 0b0101_0001_1001_1110 (.subi 25 0x1E) &&
      decodes 0b0110_0001_1001_1110 (.ori 25 0x1E) &&
      decodes 0b0111_0001_1001_1110 (.andi 25 0x1E) &&
      decodes 0b1001_0110_1010_0111 (.adiw 28 0x27) &&
      decodes 0b1001_0111_1010_0111 (.sbiw 28 0x27)) = true := by decide

/-- Words written out from the patterns of 30_encoding.md R111. -/
theorem test_decode_one_register :
    (decodes 0b1001_0101_0010_0000 (.com 18) &&
      decodes 0b1001_0101_0010_0001 (.neg 18) &&
      decodes 0b1001_0101_0010_0010 (.swap 18) &&
      decodes 0b1001_0101_0010_0011 (.inc 18) &&
      decodes 0b1001_0101_0010_0101 (.asr 18) &&
      decodes 0b1001_0101_0010_0110 (.lsr 18) &&
      decodes 0b1001_0101_0010_0111 (.ror 18) &&
      decodes 0b1001_0101_0010_1010 (.dec 18)) = true := by decide

/-- Words written out from the patterns of 30_encoding.md R111. -/
theorem test_decode_loads :
    (decodes 0b1001_0001_0010_0001 (.ldZInc 18) &&
      decodes 0b1001_0001_0010_0010 (.ldZDec 18) &&
      decodes 0b1001_0001_0010_1001 (.ldYInc 18) &&
      decodes 0b1001_0001_0010_1010 (.ldYDec 18) &&
      decodes 0b1001_0001_0010_1100 (.ldX 18) &&
      decodes 0b1001_0001_0010_1101 (.ldXInc 18) &&
      decodes 0b1001_0001_0010_1110 (.ldXDec 18) &&
      decodes 0b1010_0101_0010_0101 (.lddZ 18 0x2D) &&
      decodes 0b1010_0101_0010_1101 (.lddY 18 0x2D) &&
      decodes2 0b1001_0001_0010_0000 0x0135 (.lds 18 0x0135)) = true := by decide

/-- Words written out from the patterns of 30_encoding.md R111. -/
theorem test_decode_stores :
    (decodes 0b1001_0011_0010_0001 (.stZInc 18) &&
      decodes 0b1001_0011_0010_0010 (.stZDec 18) &&
      decodes 0b1001_0011_0010_1001 (.stYInc 18) &&
      decodes 0b1001_0011_0010_1010 (.stYDec 18) &&
      decodes 0b1001_0011_0010_1100 (.stX 18) &&
      decodes 0b1001_0011_0010_1101 (.stXInc 18) &&
      decodes 0b1001_0011_0010_1110 (.stXDec 18) &&
      decodes 0b1010_0111_0010_0101 (.stdZ 0x2D 18) &&
      decodes 0b1010_0111_0010_1101 (.stdY 0x2D 18) &&
      decodes2 0b1001_0011_0010_0000 0x0135 (.sts 0x0135 18)) = true := by decide

/-- Words written out from the patterns of 30_encoding.md R111. -/
theorem test_decode_program_loads :
    (decodes 0b1001_0001_0010_0100 (.lpmRd 18) &&
      decodes 0b1001_0001_0010_0101 (.lpmRdInc 18) &&
      decodes 0b1001_0001_0010_0110 (.elpmRd 18) &&
      decodes 0b1001_0001_0010_0111 (.elpmRdInc 18) &&
      decodes 0b1001_0101_1100_1000 (.lpm) &&
      decodes 0b1001_0101_1101_1000 (.elpm) &&
      decodes 0b1001_0101_1110_1000 (.spm)) = true := by decide

/-- Words written out from the patterns of 30_encoding.md R111. -/
theorem test_decode_stack_and_sfr :
    (decodes 0b1001_0001_0010_1111 (.pop 18) &&
      decodes 0b1001_0011_0010_1111 (.push 18) &&
      decodes 0b1011_0101_0010_1101 (.in_ 18 0x2D) &&
      decodes 0b1011_1101_0010_1101 (.out 0x2D 18)) = true := by decide

/-- Words written out from the patterns of 30_encoding.md R111. -/
theorem test_decode_bits :
    (decodes 0b1001_0100_0110_1000 (.bset 6) &&
      decodes 0b1001_0100_1110_1000 (.bclr 6) &&
      decodes 0b1111_1001_0010_0110 (.bld 18 6) &&
      decodes 0b1111_1011_0010_0110 (.bst 18 6) &&
      decodes 0b1001_1000_1001_1110 (.cbi 0x13 6) &&
      decodes 0b1001_1010_1001_1110 (.sbi 0x13 6)) = true := by decide

/-- Words written out from the patterns of 30_encoding.md R111. -/
theorem test_decode_control :
    (decodes 0b1111_0001_0110_1110 (.brbs 6 0x2D) &&
      decodes 0b1111_0110_1110_1110 (.brbc 6 0x5D) &&
      decodes 0b1100_1010_0101_1100 (.rjmp 0xA5C) &&
      decodes 0b1101_1010_0101_1100 (.rcall 0xA5C) &&
      decodes2 0b1001_0101_0101_1101 0x1234 (.jmp 0x2B1234) &&
      decodes2 0b1001_0101_0101_1111 0x1234 (.call 0x2B1234) &&
      decodes 0b1001_0100_0000_1001 (.ijmp) &&
      decodes 0b1001_0100_0001_1001 (.eijmp) &&
      decodes 0b1001_0101_0000_1001 (.icall) &&
      decodes 0b1001_0101_0001_1001 (.eicall) &&
      decodes 0b1001_0101_0000_1000 (.ret) &&
      decodes 0b1001_0101_0001_1000 (.reti)) = true := by decide

/-- Words written out from the patterns of 30_encoding.md R111. -/
theorem test_decode_system :
    (decodes 0b0000_0000_0000_0000 (.nop) &&
      decodes 0b1001_0101_1000_1000 (.sleep) &&
      decodes 0b1001_0101_1001_1000 (.break_) &&
      decodes 0b1001_0101_1010_1000 (.wdr)) = true := by decide

/-- Aliases of 30_encoding.md R117: the word, the name, and what the word decodes to. -/
theorem test_decode_branch_aliases :
    (aliasWord 0b1111_0101_0110_1000 (.brcc 0x2D) (.brbc 0 0x2D) &&
      aliasWord 0b1111_0001_0110_1000 (.brcs 0x2D) (.brbs 0 0x2D) &&
      aliasWord 0b1111_0101_0110_1000 (.brsh 0x2D) (.brbc 0 0x2D) &&
      aliasWord 0b1111_0001_0110_1000 (.brlo 0x2D) (.brbs 0 0x2D) &&
      aliasWord 0b1111_0101_0110_1001 (.brne 0x2D) (.brbc 1 0x2D) &&
      aliasWord 0b1111_0001_0110_1001 (.breq 0x2D) (.brbs 1 0x2D) &&
      aliasWord 0b1111_0101_0110_1010 (.brpl 0x2D) (.brbc 2 0x2D) &&
      aliasWord 0b1111_0001_0110_1010 (.brmi 0x2D) (.brbs 2 0x2D) &&
      aliasWord 0b1111_0101_0110_1011 (.brvc 0x2D) (.brbc 3 0x2D) &&
      aliasWord 0b1111_0001_0110_1011 (.brvs 0x2D) (.brbs 3 0x2D) &&
      aliasWord 0b1111_0101_0110_1100 (.brge 0x2D) (.brbc 4 0x2D) &&
      aliasWord 0b1111_0001_0110_1100 (.brlt 0x2D) (.brbs 4 0x2D) &&
      aliasWord 0b1111_0101_0110_1101 (.brhc 0x2D) (.brbc 5 0x2D) &&
      aliasWord 0b1111_0001_0110_1101 (.brhs 0x2D) (.brbs 5 0x2D) &&
      aliasWord 0b1111_0101_0110_1110 (.brtc 0x2D) (.brbc 6 0x2D) &&
      aliasWord 0b1111_0001_0110_1110 (.brts 0x2D) (.brbs 6 0x2D) &&
      aliasWord 0b1111_0101_0110_1111 (.brid 0x2D) (.brbc 7 0x2D) &&
      aliasWord 0b1111_0001_0110_1111 (.brie 0x2D) (.brbs 7 0x2D) &&
      aliasWord 0b1111_0001_0110_1111 (.bric 0x2D) (.brbs 7 0x2D)) = true := by decide

/-- Aliases of 30_encoding.md R117: the word, the name, and what the word decodes to. -/
theorem test_decode_flag_aliases :
    (aliasWord 0b1001_0100_0000_1000 (.sec) (.bset 0) &&
      aliasWord 0b1001_0100_0001_1000 (.sez) (.bset 1) &&
      aliasWord 0b1001_0100_0010_1000 (.sen) (.bset 2) &&
      aliasWord 0b1001_0100_0011_1000 (.sev) (.bset 3) &&
      aliasWord 0b1001_0100_0100_1000 (.ses) (.bset 4) &&
      aliasWord 0b1001_0100_0101_1000 (.seh) (.bset 5) &&
      aliasWord 0b1001_0100_0110_1000 (.set_) (.bset 6) &&
      aliasWord 0b1001_0100_0111_1000 (.sei) (.bset 7) &&
      aliasWord 0b1001_0100_1000_1000 (.clc) (.bclr 0) &&
      aliasWord 0b1001_0100_1001_1000 (.clz) (.bclr 1) &&
      aliasWord 0b1001_0100_1010_1000 (.cln) (.bclr 2) &&
      aliasWord 0b1001_0100_1011_1000 (.clv) (.bclr 3) &&
      aliasWord 0b1001_0100_1100_1000 (.cls) (.bclr 4) &&
      aliasWord 0b1001_0100_1101_1000 (.clh) (.bclr 5) &&
      aliasWord 0b1001_0100_1110_1000 (.clt) (.bclr 6) &&
      aliasWord 0b1001_0100_1111_1000 (.cli) (.bclr 7)) = true := by decide

/-- Aliases of 30_encoding.md R117: the word, the name, and what the word decodes to. -/
theorem test_decode_other_aliases :
    (aliasWord 0b0010_0111_0010_0010 (.clr 18) (.eor 18 18) &&
      aliasWord 0b1110_1111_0010_1111 (.ser 18) (.ldi 18 0xFF) &&
      aliasWord 0b0010_0011_0010_0010 (.tst 18) (.and_ 18 18) &&
      aliasWord 0b0000_1111_0010_0010 (.lsl 18) (.add 18 18) &&
      aliasWord 0b0001_1111_0010_0010 (.rol 18) (.adc 18 18) &&
      aliasWord 0b0111_1110_0010_0001 (.cbr 18 0x1E) (.andi 18 0xE1) &&
      aliasWord 0b0110_0001_0010_1110 (.sbr 18 0x1E) (.ori 18 0x1E) &&
      aliasWord 0b1000_0001_0010_1000 (.ldY 18) (.lddY 18 0) &&
      aliasWord 0b1000_0001_0010_0000 (.ldZ 18) (.lddZ 18 0) &&
      aliasWord 0b1000_0011_0010_1000 (.stY 18) (.stdY 0 18) &&
      aliasWord 0b1000_0011_0010_0000 (.stZ 18) (.stdZ 0 18)) = true := by decide

-- Single steps: arithmetic, logic, bits, moves.

/-- V-ARI-2: `add r16,r17`. -/
theorem test_adds_with_carry_out :
    runs [0x0F01] (start 0x00 [(16, 0xFF), (17, 0x01)]) (ends 0x23 [(16, 0x00)]) = true := by decide

/-- V-ARI-3: `add r16,r17`. -/
theorem test_add_signed_overflow :
    runs [0x0F01] (start 0x00 [(16, 0x7F), (17, 0x01)]) (ends 0x2C [(16, 0x80)]) = true := by decide

/-- V-ARI-10: `adc r16,r17`. -/
theorem test_adc_takes_carry_in :
    runs [0x1F01] (start 0x01 [(16, 0xFF), (17, 0x00)]) (ends 0x23 [(16, 0x00)]) = true := by decide

/-- V-ARI-15: `adc r16,r17`. -/
theorem test_adc_full_range :
    runs [0x1F01] (start 0x01 [(16, 0x80), (17, 0x7F)]) (ends 0x23 [(16, 0x00)]) = true := by decide

/-- V-ARI-54: `adiw r31:r30,32`. -/
theorem test_adiw_carry :
    runs [0x96B0] (start 0x00 [(30, 0xF0), (31, 0xFF)]) (ends 0x01 [(30, 0x10), (31, 0x00)]) = true := by decide

/-- V-ARI-52: `adiw r27:r26,1`. -/
theorem test_adiw_signed_overflow :
    runs [0x9611] (start 0x00 [(26, 0xFF), (27, 0x7F)]) (ends 0x0C [(26, 0x00), (27, 0x80)]) = true := by decide

/-- V-ARI-17: `sub r16,r17`. -/
theorem test_sub_borrow :
    runs [0x1B01] (start 0x00 [(16, 0x00), (17, 0x01)]) (ends 0x35 [(16, 0xFF)]) = true := by decide

/-- V-ARI-18: `sub r16,r17`. -/
theorem test_sub_signed_overflow :
    runs [0x1B01] (start 0x00 [(16, 0x80), (17, 0x01)]) (ends 0x38 [(16, 0x7F)]) = true := by decide

/-- V-ARI-27: `subi r31,$FF`. -/
theorem test_subi_by_255 :
    runs [0x5FFF] (start 0x00 [(31, 0x00)]) (ends 0x21 [(31, 0x01)]) = true := by decide

/-- V-ARI-30: `sbc r16,r17`. -/
theorem test_sbc_zero_stays_clear :
    runs [0x0B01] (start 0x00 [(16, 0x00), (17, 0x00)]) (ends 0x00 [(16, 0x00)]) = true := by decide

/-- V-ARI-34: `sbc r16,r17`. -/
theorem test_sbc_signed_overflow :
    runs [0x0B01] (start 0x01 [(16, 0x80), (17, 0x00)]) (ends 0x38 [(16, 0x7F)]) = true := by decide

/-- V-ARI-35: `sbci r16,$FF`. -/
theorem test_sbci_with_borrow :
    runs [0x4F0F] (start 0x03 [(16, 0x00)]) (ends 0x23 [(16, 0x00)]) = true := by decide

/-- V-ARI-36: `sbci r16,$00`. -/
theorem test_sbci_zero_kept :
    runs [0x4000] (start 0x02 [(16, 0x00)]) (ends 0x02 [(16, 0x00)]) = true := by decide

/-- V-ARI-56: `sbiw r27:r26,1`. -/
theorem test_sbiw_signed_overflow :
    runs [0x9711] (start 0x00 [(26, 0x00), (27, 0x80)]) (ends 0x18 [(26, 0xFF), (27, 0x7F)]) = true := by decide

/-- V-ARI-57: `sbiw r29:r28,1`. -/
theorem test_sbiw_borrow :
    runs [0x9721] (start 0x00 [(28, 0x00), (29, 0x00)]) (ends 0x15 [(28, 0xFF), (29, 0xFF)]) = true := by decide

/-- V-ARI-40: `inc r16`. -/
theorem test_inc_overflow_keeps_carries :
    runs [0x9503] (start 0x21 [(16, 0x7F)]) (ends 0x2D [(16, 0x80)]) = true := by decide

/-- V-ARI-41: `inc r16`. -/
theorem test_inc_wraps :
    runs [0x9503] (start 0x00 [(16, 0xFF)]) (ends 0x02 [(16, 0x00)]) = true := by decide

/-- V-ARI-43: `dec r16`. -/
theorem test_dec_overflow :
    runs [0x950A] (start 0x21 [(16, 0x80)]) (ends 0x39 [(16, 0x7F)]) = true := by decide

/-- V-ARI-44: `dec r16`. -/
theorem test_dec_wraps :
    runs [0x950A] (start 0x00 [(16, 0x00)]) (ends 0x14 [(16, 0xFF)]) = true := by decide

/-- V-ARI-47: `neg r16`. -/
theorem test_neg_of_minimum :
    runs [0x9501] (start 0x00 [(16, 0x80)]) (ends 0x0D [(16, 0x80)]) = true := by decide

/-- V-ARI-48: `neg r16`. -/
theorem test_neg_of_one :
    runs [0x9501] (start 0x00 [(16, 0x01)]) (ends 0x35 [(16, 0xFF)]) = true := by decide

/-- V-ARI-24: `cp r16,r17`. -/
theorem test_cp_writes_no_register :
    runs [0x1701] (start 0x00 [(16, 0x00), (17, 0x01)]) (ends 0x35 [(16, 0x00)]) = true := by decide

/-- V-ARI-38: `cpc r16,r17`. -/
theorem test_cpc_zero_stays_clear :
    runs [0x0701] (start 0x00 [(16, 0x00), (17, 0x00)]) (ends 0x00 [(16, 0x00)]) = true := by decide

/-- V-ARI-39: `cpc r16,r17`. -/
theorem test_cpc_borrows_through :
    runs [0x0701] (start 0x01 [(16, 0x00), (17, 0xFF)]) (ends 0x21 [(16, 0x00)]) = true := by decide

/-- V-ARI-26: `cpi r16,$80`. -/
theorem test_cpi_signed_overflow :
    runs [0x3800] (start 0x00 [(16, 0x7F)]) (ends 0x0D [(16, 0x7F)]) = true := by decide

/-- V-ARI-59: `mul r16,r17`. -/
theorem test_mul_keeps_other_flags :
    runs [0x9F01] (start 0xFF [(16, 0xFF), (17, 0xFF)]) (ends 0xFD [(0, 0x01), (1, 0xFE)]) = true := by decide

/-- V-ARI-61: `mul r31,r0`. -/
theorem test_mul_source_overwritten :
    runs [0x9DF0] (start 0x00 [(31, 0x03), (0, 0x05)]) (ends 0x00 [(0, 0x0F), (1, 0x00)]) = true := by decide

/-- V-ARI-64: `muls r31,r16`. -/
theorem test_muls_minimum_squared :
    runs [0x02F0] (start 0x00 [(31, 0x80), (16, 0x80)]) (ends 0x00 [(0, 0x00), (1, 0x40)]) = true := by decide

/-- V-ARI-65: `muls r16,r17`. -/
theorem test_muls_negative :
    runs [0x0201] (start 0x00 [(16, 0x80), (17, 0x7F)]) (ends 0x01 [(0, 0x80), (1, 0xC0)]) = true := by decide

/-- V-ARI-66: `mulsu r16,r17`. -/
theorem test_mulsu_mixed_signs :
    runs [0x0301] (start 0x00 [(16, 0xFF), (17, 0xFF)]) (ends 0x01 [(0, 0x01), (1, 0xFF)]) = true := by decide

/-- V-ARI-69: `fmul r16,r17`. -/
theorem test_fmul_carry_is_the_lost_bit :
    runs [0x0309] (start 0x00 [(16, 0xFF), (17, 0xFF)]) (ends 0x01 [(0, 0x02), (1, 0xFC)]) = true := by decide

/-- V-ARI-71: `fmuls r16,r17`. -/
theorem test_fmuls_minimum_squared :
    runs [0x0381] (start 0x00 [(16, 0x80), (17, 0x80)]) (ends 0x00 [(0, 0x00), (1, 0x80)]) = true := by decide

/-- V-ARI-72: `fmuls r16,r17`. -/
theorem test_fmuls_negative :
    runs [0x0381] (start 0x00 [(16, 0xC0), (17, 0x40)]) (ends 0x01 [(0, 0x00), (1, 0xE0)]) = true := by decide

/-- V-ARI-73: `fmulsu r16,r17`. -/
theorem test_fmulsu_negative :
    runs [0x0389] (start 0x00 [(16, 0x80), (17, 0x80)]) (ends 0x01 [(0, 0x00), (1, 0x80)]) = true := by decide

/-- V-LOG-1: `and r16,r17`. -/
theorem test_and_clears_v_keeps_carries :
    runs [0x2301] (start 0x29 [(16, 0xF0), (17, 0x0F)]) (ends 0x23 [(16, 0x00)]) = true := by decide

/-- V-LOG-3: `andi r31,$00`. -/
theorem test_andi_zero :
    runs [0x70F0] (start 0x00 [(31, 0xFF)]) (ends 0x02 [(31, 0x00)]) = true := by decide

/-- V-LOG-5: `or r16,r17`. -/
theorem test_or_negative :
    runs [0x2B01] (start 0x00 [(16, 0x80), (17, 0x01)]) (ends 0x14 [(16, 0x81)]) = true := by decide

/-- V-LOG-6: `ori r31,$FF`. -/
theorem test_ori_all :
    runs [0x6FFF] (start 0x00 [(31, 0x00)]) (ends 0x14 [(31, 0xFF)]) = true := by decide

/-- V-LOG-7: `eor r16,r17`. -/
theorem test_eor_equal :
    runs [0x2701] (start 0x01 [(16, 0xFF), (17, 0xFF)]) (ends 0x03 [(16, 0x00)]) = true := by decide

/-- V-LOG-11: `com r31`. -/
theorem test_com_sets_carry :
    runs [0x95F0] (start 0x20 [(31, 0x55)]) (ends 0x35 [(31, 0xAA)]) = true := by decide

/-- V-LOG-10: `com r16`. -/
theorem test_com_of_all_ones :
    runs [0x9500] (start 0x08 [(16, 0xFF)]) (ends 0x03 [(16, 0x00)]) = true := by decide

/-- V-LOG-12: `asr r16`. -/
theorem test_asr_keeps_sign :
    runs [0x9505] (start 0x00 [(16, 0x80)]) (ends 0x0C [(16, 0xC0)]) = true := by decide

/-- V-LOG-15: `asr r16`. -/
theorem test_asr_ignores_old_carry :
    runs [0x9505] (start 0x21 [(16, 0x7E)]) (ends 0x20 [(16, 0x3F)]) = true := by decide

/-- V-LOG-16: `lsr r16`. -/
theorem test_lsr_shifts_out :
    runs [0x9506] (start 0x04 [(16, 0x01)]) (ends 0x1B [(16, 0x00)]) = true := by decide

/-- V-LOG-19: `ror r16`. -/
theorem test_ror_takes_carry_in :
    runs [0x9507] (start 0x01 [(16, 0x00)]) (ends 0x0C [(16, 0x80)]) = true := by decide

/-- V-LOG-21: `ror r16`. -/
theorem test_ror_shifts_both :
    runs [0x9507] (start 0x01 [(16, 0x01)]) (ends 0x15 [(16, 0x80)]) = true := by decide

/-- V-LOG-23: `swap r16`. -/
theorem test_swap_keeps_flags :
    runs [0x9502] (start 0xFF [(16, 0xA5)]) (ends 0xFF [(16, 0x5A)]) = true := by decide

/-- V-LOG-26: `lsl r16`. -/
theorem test_lsl_half_carry :
    runs [0x0F00] (start 0x00 [(16, 0x48)]) (ends 0x2C [(16, 0x90)]) = true := by decide

/-- V-LOG-27: `rol r16`. -/
theorem test_rol_through_carry :
    runs [0x1F00] (start 0x01 [(16, 0x80)]) (ends 0x19 [(16, 0x01)]) = true := by decide

/-- V-LOG-29: `tst r16`. -/
theorem test_tst_clears_v :
    runs [0x2300] (start 0x09 [(16, 0x00)]) (ends 0x03 [(16, 0x00)]) = true := by decide

/-- V-LOG-31: `clr r31`. -/
theorem test_clr_keeps_carry :
    runs [0x27FF] (start 0x1D [(31, 0xC3)]) (ends 0x03 [(31, 0x00)]) = true := by decide

/-- V-LOG-32: `ser r31`. -/
theorem test_ser_keeps_flags :
    runs [0xEFFF] (start 0x00 [(31, 0x00)]) (ends 0x00 [(31, 0xFF)]) = true := by decide

/-- V-LOG-33: `cbr r16,$FF`. -/
theorem test_cbr_all :
    runs [0x7000] (start 0x00 [(16, 0xFF)]) (ends 0x02 [(16, 0x00)]) = true := by decide

/-- V-LOG-35: `sbr r16,$81`. -/
theorem test_sbr_sets_bits :
    runs [0x6801] (start 0x02 [(16, 0x00)]) (ends 0x14 [(16, 0x81)]) = true := by decide

/-- V-BIT-3: `bst r16,0`. -/
theorem test_bst_clears_t_alone :
    runs [0xFB00] (start 0xFF [(16, 0xFE)]) (ends 0xBF [(16, 0xFE)]) = true := by decide

/-- V-BIT-4: `bst r31,3`. -/
theorem test_bst_sets_t :
    runs [0xFBF3] (start 0x00 [(31, 0x08)]) (ends 0x40 [(31, 0x08)]) = true := by decide

/-- V-BIT-5: `bld r16,7`. -/
theorem test_bld_sets_bit :
    runs [0xF907] (start 0x40 [(16, 0x00)]) (ends 0x40 [(16, 0x80)]) = true := by decide

/-- V-BIT-6: `bld r16,7`. -/
theorem test_bld_clears_bit :
    runs [0xF907] (start 0xBF [(16, 0xFF)]) (ends 0xBF [(16, 0x7F)]) = true := by decide

/-- V-TRF-1: `mov r0,r31`. -/
theorem test_mov_between_ends :
    runs [0x2E0F] (start 0x00 [(31, 0xA5)]) (ends 0x00 [(0, 0xA5), (31, 0xA5)]) = true := by decide

/-- V-TRF-4: `movw r31:r30,r25:r24`. -/
theorem test_movw_to_z :
    runs [0x01FC] (start 0x00 [(24, 0xEF), (25, 0xBE)]) (ends 0x00 [(30, 0xEF), (31, 0xBE)]) = true := by decide

/-- V-TRF-8: `ldi r16,$00`. -/
theorem test_ldi_keeps_flags :
    runs [0xE000] (start 0x00 [(16, 0xFF)]) (ends 0x00 [(16, 0x00)]) = true := by decide

/-- V-TRF-9: `ldi r24,$A5`. -/
theorem test_ldi_splits_constant :
    runs [0xEA85] (start 0x00 []) (ends 0x00 [(24, 0xA5)]) = true := by decide

-- Single steps: control.

/-- V-CTL-2: `brbs` with the smallest distance. -/
theorem test_brbs_back_64 :
    runs [0xF201] { start 0x02 [] with pc := 0x0100 } (fun t => t.pc == 0x00C1 && ends 0x02 [] t) = true := by decide

/-- V-CTL-6: a branch below 0 wraps modulo 2^16. -/
theorem test_breq_wraps : runs [0xF3F1] (start 0x02 []) (fun t => t.pc == 0xFFFF) = true := by decide

/-- V-CTL-4: `brbc` not taken. -/
theorem test_brbc_not_taken :
    runs [0xF407] { start 0x80 [] with pc := 0x0100 } (fun t => t.pc == 0x0101) = true := by decide

/-- V-CTL-8: `rjmp` with k = -2048. -/
theorem test_rjmp_back :
    runs [0xC800] { start 0x00 [] with pc := 0x0901 } (fun t => t.pc == 0x0102) = true := by decide

/-- V-CTL-10: `rjmp` at the last word wraps to 0. -/
theorem test_rjmp_wraps :
    runs [0xC000] { start 0x00 [] with pc := 0xFFFF } (fun t => t.pc == 0) = true := by decide

/-- V-CTL-12: `jmp` with a 22-bit PC. -/
theorem test_jmp_wide :
    runs [0x955C, 0xBCDE] { wide with pc := 0x000100 } (fun t => t.pc == 0x2ABCDE) = true := by decide

/-- V-CTL-14: `jmp` with a 16-bit PC drops the upper six bits. -/
theorem test_jmp_drops_bits :
    runs [0x95FD, 0x1234] { start 0x00 [] with pc := 0x0100 } (fun t => t.pc == 0x1234) = true := by decide

/-- V-CTL-16: `ijmp` ignores EIND. -/
theorem test_ijmp_ignores_eind :
    runs [0x9409] { put [(30, 0x34), (31, 0x12)] wide with pc := 0x000100, eind := 0x3F }
      (fun t => t.pc == 0x001234) = true := by decide

/-- V-CTL-18: `eijmp` drops EIND[7:6]. -/
theorem test_eijmp_drops_bits :
    runs [0x9419] { put [(30, 0x34), (31, 0x12)] wide with pc := 0x000100, eind := 0xC2 }
      (fun t => t.pc == 0x021234) = true := by decide

/-- V-CTL-19: `rcall` pushes two bytes. -/
theorem test_rcall_pushes :
    runs [0xD7FF] { start 0x00 [] with pc := 0x0100 }
      (fun t => t.pc == 0x0900 && t.sp == 0x045D && holds [(0x045F, 0x01), (0x045E, 0x01)] t) = true := by decide

/-- V-CTL-23: `rcall` with a 22-bit PC pushes three bytes. -/
theorem test_rcall_pushes_three :
    runs [0xDFFF] { wide with pc := 0x012345 } (fun t => t.pc == 0x012345 && t.sp == 0x21FC &&
      holds [(0x21FF, 0x46), (0x21FE, 0x23), (0x21FD, 0x01)] t) = true := by decide

/-- V-CTL-21: `call` returns two words on. -/
theorem test_call_returns_behind_two_words :
    runs [0x940E, 0xFFFF] { start 0x00 [] with pc := 0x01FE }
      (fun t => t.pc == 0xFFFF && t.sp == 0x045D && holds [(0x045F, 0x00), (0x045E, 0x02)] t) = true := by decide

/-- V-CTL-22: `icall`. -/
theorem test_icall_pushes :
    runs [0x9509] { start 0x00 [(30, 0), (31, 0)] with pc := 0x12FF }
      (fun t => t.pc == 0 && t.sp == 0x045D && holds [(0x045F, 0x00), (0x045E, 0x13)] t) = true := by decide

/-- V-CTL-26: `eicall` with a 22-bit PC. -/
theorem test_eicall_pushes_three :
    runs [0x9519] { put [(30, 0), (31, 0x40)] wide with pc := 0x012345, eind := 1 }
      (fun t => t.pc == 0x014000 && t.sp == 0x21FC && holds [(0x21FF, 0x46), (0x21FE, 0x23), (0x21FD, 0x01)] t) =
      true := by decide

/-- V-CTL-27: `ret`. -/
theorem test_ret_pops :
    runs [0x9508] { poke [(0x045E, 0x12), (0x045F, 0x34)] (start 0x00 []) with pc := 0x0200, sp := 0x045D }
      (fun t => t.pc == 0x1234 && t.sp == 0x045F && t.sreg == 0) = true := by decide

/-- V-CTL-29: `ret` with a 22-bit PC drops two bits. -/
theorem test_ret_pops_three :
    runs [0x9508] { poke [(0x21FD, 0xC1), (0x21FE, 0x23), (0x21FF, 0x45)] wide with sp := 0x21FC }
      (fun t => t.pc == 0x012345 && t.sp == 0x21FF) = true := by decide

/-- V-CTL-28: `reti` sets I and the delay. -/
theorem test_reti_sets_i :
    runs [0x9518] { poke [(0x045E, 0x12), (0x045F, 0x34)] (start 0x1F []) with pc := 0x0200, sp := 0x045D }
      (fun t => t.pc == 0x1234 && t.sp == 0x045F && t.sreg == 0x9F && t.irqDelay == .set) = true := by decide

/-- V-CTL-30: `cpse` over a two-word instruction. -/
theorem test_cpse_skips_two_words :
    runs [0x1301, 0x9100, 0x0100] (start 0x00 [(16, 7), (17, 7)]) (fun t => t.pc == 3) = true := by decide

/-- V-CTL-32: `cpse` without skip. -/
theorem test_cpse_no_skip :
    runs [0x1301, 0x940E, 0x0100] (start 0x00 [(16, 7), (17, 8)]) (fun t => t.pc == 1) = true := by decide

/-- V-CTL-40: `sbrc` passes two words after a word of the STS pattern. -/
theorem test_sbrc_skips_by_first_word :
    runs [0xFD07, 0x9200, 0xFFFF] (start 0x00 [(16, 0)]) (fun t => t.pc == 3) = true := by decide

/-- V-CTL-41: `sbrc` passes an unassigned word as one word. -/
theorem test_sbrc_skips_unassigned :
    runs [0xFD07, 0x0001] (start 0x00 [(16, 0)]) (fun t => t.pc == 2) = true := by decide

/-- V-CTL-35: `sbrs` skips one word. -/
theorem test_sbrs_skips :
    runs [0xFF00, 0x0000] (start 0x00 [(16, 1)]) (fun t => t.pc == 2) = true := by decide

/-- 43_control.md R258, 70_reset_and_hazards.md R461: a skip at the end of the image faults. -/
theorem test_sbrs_at_end_faults : faults [0xFF00] (start 0x00 [(16, 1)]) (.fetchOutOfRange 1) = true := by decide

/-- V-CTL-37: `sbic` over STS. -/
theorem test_sbic_skips_two_words :
    runs [0x99FF, 0x9300, 0x0100] { start 0x00 [] with sfr := [(0x3F, 0x7F)] }
      (fun t => t.pc == 3 && t.sramByte 0x0100 == none) = true := by decide

/-- V-CTL-39: `sbis` without skip. -/
theorem test_sbis_no_skip :
    runs [0x9B00, 0x0000] { start 0x00 [] with sfr := [(0x20, 0xFE)] } (fun t => t.pc == 1) = true := by decide

-- Single steps: SREG and SFR bits.

/-- The table of V-BIT-1: the eight BSET words from SREG = $00, the eight BCLR words from $FF. -/
theorem test_bset_bclr_table :
    (runs [0x9408] (start 0x00 []) (ends 0x01 []) && runs [0x9428] (start 0x00 []) (ends 0x04 []) &&
      runs [0x9478] (start 0x00 []) (fun t => t.sreg == 0x80 && t.irqDelay == .set) &&
      runs [0x9488] (start 0xFF []) (ends 0xFE []) && runs [0x94C8] (start 0xFF []) (ends 0xEF []) &&
      runs [0x94F8] (start 0xFF []) (ends 0x7F [])) = true := by decide

/-- V-BIT-7: `bld r0,0`. -/
theorem test_bld_field_ends : runs [0xF800] (start 0x40 [(0, 0)]) (ends 0x40 [(0, 1)]) = true := by decide

/-- V-BIT-8: `sbi $1F,7`. -/
theorem test_sbi_sets :
    runs [0x9AFF] (start 0x00 []) (fun t => t.sfrByte 0x3F == 0x80 && t.sreg == 0) = true := by decide

/-- V-BIT-11: `cbi $00,0` of a clear bit reads and writes the SFR. -/
theorem test_cbi_writes_back :
    runs [0x9800] (start 0x00 []) (fun t => t.sfrByte 0x20 == 0 && t.ioLog == [.read 0x20 0, .write 0x20 0]) =
      true := by decide

-- Single steps: transfers.

/-- The SRAM of V-TRF-10 to V-TRF-31. -/
def tab (p : Reg) : State :=
  poke [(0x00FF, 0x11), (0x0100, 0x22), (0x0101, 0x33)] (start 0x00 [(p, 0x00), (p + 1, 0x01), (16, 0x99)])

/-- The pointer p afterwards, R16, and nothing stored. -/
def loaded (p : Reg) (a : Word) (v : Byte) (t : State) : Bool :=
  t.pair p == a && t.reg 16 == v && holds [(0x00FF, 0x11), (0x0100, 0x22), (0x0101, 0x33)] t

/-- The pointer p afterwards and the three bytes. -/
def stored (p : Reg) (a : Word) (x y z : Byte) (t : State) : Bool :=
  t.pair p == a && holds [(0x00FF, x), (0x0100, y), (0x0101, z)] t

/-- V-TRF-10 to V-TRF-12. -/
theorem test_ld_x :
    (runs [0x910C] (tab 26) (loaded 26 0x0100 0x22) && runs [0x910D] (tab 26) (loaded 26 0x0101 0x22) &&
      runs [0x910E] (tab 26) (loaded 26 0x00FF 0x11)) = true := by decide

/-- V-TRF-13 to V-TRF-16. -/
theorem test_ld_y :
    (runs [0x8108] (tab 28) (loaded 28 0x0100 0x22) && runs [0x9109] (tab 28) (loaded 28 0x0101 0x22) &&
      runs [0x910A] (tab 28) (loaded 28 0x00FF 0x11) && runs [0x8109] (tab 28) (loaded 28 0x0100 0x33)) = true := by
  decide

/-- V-TRF-17 to V-TRF-20. -/
theorem test_ld_z :
    (runs [0x8100] (tab 30) (loaded 30 0x0100 0x22) && runs [0x9101] (tab 30) (loaded 30 0x0101 0x22) &&
      runs [0x9102] (tab 30) (loaded 30 0x00FF 0x11) && runs [0x8101] (tab 30) (loaded 30 0x0100 0x33)) = true := by
  decide

/-- V-TRF-21 to V-TRF-23. -/
theorem test_st_x :
    (runs [0x930C] (tab 26) (stored 26 0x0100 0x11 0x99 0x33) &&
      runs [0x930D] (tab 26) (stored 26 0x0101 0x11 0x99 0x33) &&
      runs [0x930E] (tab 26) (stored 26 0x00FF 0x99 0x22 0x33)) = true := by decide

/-- V-TRF-24 to V-TRF-27. -/
theorem test_st_y :
    (runs [0x8308] (tab 28) (stored 28 0x0100 0x11 0x99 0x33) &&
      runs [0x9309] (tab 28) (stored 28 0x0101 0x11 0x99 0x33) &&
      runs [0x930A] (tab 28) (stored 28 0x00FF 0x99 0x22 0x33) &&
      runs [0x8309] (tab 28) (stored 28 0x0100 0x11 0x22 0x99)) = true := by decide

/-- V-TRF-28 to V-TRF-31. -/
theorem test_st_z :
    (runs [0x8300] (tab 30) (stored 30 0x0100 0x11 0x99 0x33) &&
      runs [0x9301] (tab 30) (stored 30 0x0101 0x11 0x99 0x33) &&
      runs [0x9302] (tab 30) (stored 30 0x00FF 0x99 0x22 0x33) &&
      runs [0x8301] (tab 30) (stored 30 0x0100 0x11 0x22 0x99)) = true := by decide

/-- V-TRF-34: the address of `ldd r16,Z+63` wraps to a register. -/
theorem test_ldd_wraps_to_register :
    runs [0xAD07] (start 0x00 [(30, 0xC2), (31, 0xFF), (1, 0x77)]) (ends 0x00 [(16, 0x77), (30, 0xC2)]) = true := by
  decide

/-- V-TRF-33: `std Z+32,r0`. -/
theorem test_std_displacement :
    runs [0xA200] (start 0x00 [(31, 0x01), (0, 0xA5)]) (holds [(0x0120, 0xA5)]) = true := by decide

/-- V-TRF-39: a store to the pointer's own register. -/
theorem test_st_changes_its_pointer :
    runs [0x930C] (start 0x00 [(26, 0x1A), (16, 0x60)]) (fun t => t.pair 26 == 0x0060) = true := by decide

/-- V-TRF-36: `ld r16,-X` at X = 0 reads $FFFF. -/
theorem test_ld_predecrement_wraps :
    faults [0x910E] (start 0x00 []) (.dataAddressUnimplemented 0xFFFF) = true := by decide

/-- V-TRF-42: `sts` to SREG. -/
theorem test_sts_writes_sreg :
    runs [0x9300, 0x005F] (start 0x00 [(16, 0x81)]) (fun t => t.sreg == 0x81 && t.pc == 2) = true := by decide

/-- V-TRF-46: `sts` at the start of SRAM. -/
theorem test_sts_sram_start :
    runs [0x93F0, 0x0060] (start 0x00 [(31, 0xE1)]) (fun t => t.pc == 2 && holds [(0x0060, 0xE1)] t) = true := by decide

/-- V-TRF-44: `lds` of SPH. -/
theorem test_lds_sph : runs [0x9100, 0x005E] (start 0x00 []) (ends 0x00 [(16, 0x04)]) = true := by decide

/-- V-TRF-47: `lds` behind RAMEND. -/
theorem test_lds_behind_ramend :
    faults [0x9100, 0x0460] (start 0x00 []) (.dataAddressUnimplemented 0x0460) = true := by decide

/-- V-TRF-48, V-TRF-50: `in` of SREG and of a plain SFR. -/
theorem test_in :
    (runs [0xB70F] (start 0xC3 []) (ends 0xC3 [(16, 0xC3)]) &&
      runs [0xB1F0] { start 0x00 [] with sfr := [(0x20, 0x3C)] } (ends 0x00 [(31, 0x3C)])) = true := by decide

/-- V-TRF-49, V-TRF-51: `out` to SREG and to SPH. -/
theorem test_out :
    (runs [0xBF0F] (start 0x80 [(16, 0x7F)]) (ends 0x7F []) &&
      runs [0xBF0E] (start 0x00 [(16, 0x02)]) (fun t => t.sp == 0x025F)) = true := by decide

/-- V-TRF-53, V-TRF-58: `push` into SRAM and into a register. -/
theorem test_push :
    (runs [0x930F] (start 0x00 [(16, 0xA5)]) (fun t => t.sp == 0x045E && holds [(0x045F, 0xA5)] t) &&
      runs [0x930F] { start 0x00 [(16, 0xA5)] with sp := 0x001F } (fun t => t.sp == 0x001E && t.reg 31 == 0xA5)) =
      true := by decide

/-- V-TRF-55, V-TRF-56: `pop`, and `pop` of an empty stack. -/
theorem test_pop :
    (runs [0x910F] { poke [(0x045F, 0xA5)] (start 0x00 []) with sp := 0x045E }
        (fun t => t.sp == 0x045F && t.reg 16 == 0xA5) &&
      faults [0x900F] (start 0x00 []) (.dataAddressUnimplemented 0x0460)) = true := by decide

/-- The image of V-TRF-59 to V-TRF-66. -/
def image (s : State) : State :=
  (((((s.loadWord 3 0xAA55).loadWord 4 0x3412).loadWord 0x7FFF 0xBEEF).loadWord 0xFFFF 0xC0DE).loadWord 0x10000 0xF00D)

/-- V-TRF-60, V-TRF-67: `lpm` of an odd byte, and of a word the image does not define. -/
theorem test_lpm :
    (runs [0x95C8] (image (start 0x00 [(30, 7)])) (ends 0x00 [(0, 0xAA), (30, 7)]) &&
      faults [0x95C8] (image (start 0x00 [(30, 0x10)])) (.programImageUndefined 0x10)) = true := by decide

/-- V-TRF-61: `lpm r31,Z`. -/
theorem test_lpm_overwrites_zh :
    runs [0x91F4] (image (start 0x00 [(30, 7)])) (fun t => t.pair 30 == 0xAA07) = true := by decide

/-- The second load of V-TRF-63: Z wraps, RAMPZ is left alone. -/
theorem test_lpm_inc_wraps :
    runs [0x9115] { image (start 0x00 [(30, 0xFF), (31, 0xFF)]) with rampz := 5 }
      (fun t => t.reg 17 == 0xBE && t.pair 30 == 0 && t.rampz == 5) = true := by decide

/-- V-TRF-64, V-TRF-65: `elpm` and `elpm r16,Z`. -/
theorem test_elpm :
    (runs [0x95D8] { image (put [(30, 0xFF), (31, 0xFF)] wide) with rampz := 1 } (fun t => t.reg 0 == 0xC0) &&
      runs [0x9106] { image wide with rampz := 2 } (fun t => t.reg 16 == 0x0D)) = true := by decide

/-- The second load of V-TRF-66: the carry out of Z goes into RAMPZ. -/
theorem test_elpm_inc_carries :
    runs [0x9117] { image (put [(30, 0xFF), (31, 0xFF)] wide) with rampz := 1 }
      (fun t => t.reg 17 == 0xC0 && t.pair 30 == 0 && t.rampz == 2) = true := by decide

/-- 44_transfer.md R293 (e): a data register in the updated pointer stops. -/
theorem test_overlap_stops :
    (faults [0x91AD] (start 0x00 []) (.undefinedOperandCombination 0 0x91AD) &&
      faults [0x93DA] (start 0x00 []) (.undefinedOperandCombination 0 0x93DA)) = true := by decide

-- Single steps: system, unassigned words, interrupts, watchdog.

/-- V-SYS-1: `nop`. -/
theorem test_nop : runs [0x0000] (start 0xFF []) (fun t => t.pc == 1 && t.sreg == 0xFF) = true := by decide

/-- V-SYS-2, V-SYS-3: `sleep`. -/
theorem test_sleep :
    (runs [0x9588] { start 0x80 [] with mcucr := 0x20 } (fun t => t.pc == 1 && t.sleeping) &&
      runs [0x9588] (start 0x80 []) (fun t => t.pc == 1 && !t.sleeping)) = true := by decide

/-- A machine with a watchdog of 1000 cycles. -/
def watched (s : State) : State := { s with part := { s.part with watchdog := some 1000 } }

/-- V-SYS-5: `wdr`, and what an instruction adds to the count (V-IRQ-14: an `rjmp` adds 2). -/
theorem test_wdr :
    (runs [0x95A8] { watched (start 0x00 []) with wdtCount := 999 } (fun t => t.wdtCount == 0 && t.pc == 1) &&
      runs [0xCFFF] { watched (start 0x00 []) with wdtCount := 997 } (fun t => t.wdtCount == 999)) = true := by decide

/-- A machine with a watchdog, n cycles counted, and SFR $10 showing the count. -/
def countShown (n : Nat) : State :=
  { watched (start 0x00 []) with
    part := { (watched base).part with sfrKinds := [(0x30, .described ⟨.cell .watchdog, [], []⟩)] }
    wdtCount := n }

/-- R417, R460: the cycles counted are those of the skip taken: `sbic` over one word counts 1 where bit 0 of 1 keeps it
from skipping and 2 where bit 0 of 2 is clear; `sbis` the other way round. -/
theorem test_counted_skip :
    (runs [0x9980, 0] (countShown 1) (fun t => t.pc == 1 && t.wdtCount == 2) &&
      runs [0x9980, 0] (countShown 2) (fun t => t.pc == 2 && t.wdtCount == 4) &&
      runs [0x9B80, 0] (countShown 1) (fun t => t.pc == 2 && t.wdtCount == 3) &&
      runs [0x9B80, 0] (countShown 2) (fun t => t.pc == 1 && t.wdtCount == 3)) = true := by decide

/-- V-SYS-6, V-SYS-7: `break`. -/
theorem test_break :
    (runs [0x9598] (start 0x00 []) (fun t => t.pc == 1 && !t.stopped) &&
      runs [0x9598] { start 0x00 [] with part := { Part.reference with hasOcd := true } } (fun t => t.stopped)) =
      true := by decide

/-- `spm` stops (44_transfer.md R320). -/
theorem test_spm_stops : faults [0x95E8] (start 0x00 []) (.spmNotModelled 0) = true := by decide

/-- A sample of each region of unassigned words (30_encoding.md R113). -/
theorem test_unassigned_samples :
    ([0x0001, 0x00FF, 0x9003, 0x91FB, 0x9204, 0x93FB, 0x9404, 0x95FB, 0x9429, 0x95F9, 0x9528, 0x95F8, 0xF808, 0xFFFF] :
      List Word).all (fun w => faults [w] base (.unassignedOpcode 0 w)) = true := by decide

/-- The machine of V-IRQ-1: one source, always enabled, removed on entry. -/
def requested (s : State) : State :=
  { s with
    part := { s.part with irqs := [⟨2, 2, none, true, none, false⟩] }
    irqPending := [0] }

/-- V-IRQ-1: entry with a 16-bit PC. -/
theorem test_irq_entry :
    runs [] { requested (start 0x83 []) with pc := 0x0123 }
      (fun t => holds [(0x045F, 0x23), (0x045E, 0x01)] t && t.sp == 0x045D && t.sreg == 0x03 && t.pc == 2 &&
        t.irqPending == []) = true := by decide

/-- V-IRQ-2: entry with a 22-bit PC. -/
theorem test_irq_entry_wide :
    runs [] { requested wide with pc := 0x012345, sreg := 0x83 }
      (fun t => holds [(0x21FF, 0x45), (0x21FE, 0x23), (0x21FD, 0x01)] t && t.sp == 0x21FC && t.pc == 2) = true := by
  decide

/-- V-IRQ-3, V-IRQ-5: no entry with I = 0 or after the delay; the delay is over after one instruction. -/
theorem test_irq_waits :
    (runs [0x9503] (requested (start 0x03 [(16, 0)])) (fun t => t.pc == 1 && t.irqPending == [0]) &&
      runs [0x9503] { requested (start 0x80 [(16, 0)]) with irqDelay := .set }
        (fun t => t.pc == 1 && t.reg 16 == 1 && t.irqDelay == .off && t.irqPending == [0])) = true := by decide

/-- V-SYS-4: an interrupt wakes the sleeping core; without one it sleeps on. -/
theorem test_irq_wakes :
    (runs [] { requested (start 0x80 []) with pc := 0x0012, sleeping := true }
        (fun t => !t.sleeping && t.pc == 2 && holds [(0x045F, 0x12), (0x045E, 0x00)] t) &&
      runs [] { start 0x80 [] with sleeping := true } (fun t => t.sleeping && t.pc == 0)) = true := by decide

/-- V-IRQ-8: of two sources the one with the better rank is accepted. -/
theorem test_irq_rank :
    runs [] { start 0x80 [] with
        part := { Part.reference with irqs := [⟨4, 4, none, true, none, false⟩, ⟨2, 2, none, true, none, false⟩] }
        irqPending := [0, 1] }
      (fun t => t.pc == 2 && t.irqPending == [0]) = true := by decide

/-- R406: sources without a rank of their own go by vector address, the lowest first, wherever the table lists them. -/
theorem test_irq_default_rank :
    runs [] { start 0x80 [] with
        part := { Part.reference with
          irqs := [{ vector := 4, enable := none, ackClears := true, flag := none, deviceWithdraws := false },
            { vector := 2, enable := none, ackClears := true, flag := none, deviceWithdraws := false }] }
        irqPending := [0, 1] }
      (fun t => t.pc == 2 && t.irqPending == [0]) = true := by decide

/-- R454: a core asleep at END_PC, with I = 0, has not come to a normal end; awake it has. -/
theorem test_sleep_is_no_end :
    ¬EndsAt { base with sleeping := true } 0 0 { base with sleeping := true } ∧ EndsAt base 0 0 base :=
  ⟨fun h => absurd (h.2.2.2.1 rfl).1 (by decide), rfl, rfl, rfl, fun h => absurd h (by decide),
    fun _ h => absurd h (by omega)⟩

/-- R44: MCUCR's reset byte is the part's; SLEEP is not enabled after reset on the reference part. -/
theorem test_mcucr_reset :
    ((State.resetOf { Part.reference with sfrReset := [(0x55, 0x20)] } []).mcucr == 0x20 &&
      State.reset.mcucr == 0x00 && !sleepEnabledAt Part.reference (mcucrReset Part.reference)) = true := by decide

/-- A machine whose SFR $10 has functions of its own (R72): a read gives its byte and clears it; a write puts the byte
into SFR $11 and raises the request of source 0. -/
def described (s : State) : State :=
  { requested s with
    part := { (requested s).part with
      sfrKinds := [(0x30, .described
        { readValue := .cell (.data 0x30)
          onRead := [⟨.data 0x30, .const 0⟩]
          onWrite := [⟨.data 0x31, .written⟩, ⟨.request 0, .const 1⟩] })] }
    irqPending := []
    sfr := [(0x30, 0x5A)] }

/-- R72: `in r16,$10` clears what it reads; `out $10,r16` changes SFR $11 and a request. -/
theorem test_described_sfr :
    ((match exec (.in_ 16 0x10) (described base) with
        | .next t => t.reg 16 == 0x5A && t.sfrByte 0x30 == 0
        | .fault _ => false
        | .refused _ => false) &&
      match exec (.out 0x10 16) (described (start 0 [(16, 0xA5)])) with
        | .next t => t.sfrByte 0x31 == 0xA5 && t.sfrByte 0x30 == 0x5A && t.irqPending == [0]
        | .fault _ => false
        | .refused _ => false) = true := by decide

/-- R38 (e), R411: the instruction after SEI still sees `irq_delay` true, by an SFR that shows it; then it is cleared,
but a second SEI sets it anew. -/
theorem test_delay_lasts_one_instruction :
    (runs [0xB300] { described base with
          part := { base.part with sfrKinds := [(0x30, .described ⟨.cell .irqDelay, [], []⟩)] }
          irqDelay := .set }
        (fun t => t.reg 16 == 1 && t.irqDelay == .off) &&
      runs [0x9478] { start 0x80 [] with irqDelay := .set } (fun t => t.irqDelay == .set)) = true := by decide

/-- A machine whose MCUCR, at the SFR that stands at data address a, the part describes by k. -/
def mcucrAs (a : Nat) (k : Option SfrKind) (s : State) : State :=
  { s with part := { s.part with mcucrAddr := some a, sfrDefault := k }, mcucr := 0x21 }

/-- R44, R72: MCUCR does what the part describes at its address, and is refused where the part describes nothing. -/
theorem test_mcucr_kinds :
    (runs [0xBF05] (mcucrAs 0x55 (some .storage) (start 0 [(16, 0xF0)])) (fun t => t.mcucr == 0xF0) &&
      runs [0xBF05] (mcucrAs 0x55 (some .pins) (start 0 [(16, 0xF0)])) (fun t => t.mcucr == 0x21) &&
      runs [0xBF05] (mcucrAs 0x55 (some .flags) (start 0 [(16, 0xF0)])) (fun t => t.mcucr == 0x01) &&
      faults [0xBF05] (mcucrAs 0x55 none base) (.sfrUndescribed 0x55) &&
      faults [0xB705] (mcucrAs 0x55 none base) (.sfrUndescribed 0x55)) = true := by decide

/-- A stopped core takes no step (45_system.md R353). -/
theorem test_stopped_takes_no_step : faults [0x0000] { base with stopped := true } .stopped = true := by decide

/-- A fetch outside the image, and a missing second word (20_memory.md R64, 70_reset_and_hazards.md R461). -/
theorem test_fetch_faults :
    (faults [] base (.fetchOutOfRange 0) && faults [0x940C] base (.fetchOutOfRange 1)) = true := by decide

/-- The statement of the source's E3 in both spellings, and the ones that do not exist (30_encoding.md R118, R119). -/
theorem test_assemble :
    (assembleWords 0 "adiw" [.pair 31 30, .num 1] == some [0x9631] &&
      assembleWords 0 "adiw" [.reg 30, .num 1] == some [0x9631] &&
      assembleWords 0 "subi" [.reg 16, .num (-0x30)] == some [0x5D00] &&
      assembleWords 16 "rjmp" [.num 8] == some [0xCFF7] && assembleWords 2 "brcs" [.num 16] == some [0xF068] &&
      assembleWords 16 "call" [.num 0x0123] == some [0x940E, 0x0123] &&
      assembleWords 0 "std" [.disp .z 32, .reg 0] == some [0xA200] &&
      assembleWords 0 "addi" [.reg 16, .num 1] == none && assembleWords 0 "eori" [.reg 16, .num 1] == none &&
      assembleWords 0 "cpic" [.reg 16, .num 1] == none && assembleWords 0 "ldi" [.reg 15, .num 1] == none) = true := by
  decide

/-- How a program comes to run from reset: placed from outside, the next step runs it. -/
theorem test_with_fetch_word :
    (match step (State.reset.withFetchWord 16 0xEA85) with
      | .next t => t.reg 24 == 0xA5 && t.pc == 1
      | .fault _ => false
      | .refused _ => false) = true := by decide

-- Witnesses: for each statement with hypotheses, values that meet all of them together.

theorem witness_EncodedInstructionDecodesToItself :
    (Instr.adiw 30 63).wellFormed = true ∧ (Instr.call 0x3FFFFF).wellFormed = true ∧
      (Instr.mulsu 16 23).wellFormed = true ∧ (Instr.cbr 31 0).wellFormed = true := by decide

theorem witness_DecodedInstructionEncodesToItsBytes :
    decodeBytes [0x0E, 0x94, 0x23, 0x01, 0x07] = .ok (.call 0x0123, [0x07]) ∧
      decodeBytes [0x31, 0x96] = .ok (.adiw 30 1, []) := ⟨rfl, rfl⟩

theorem witness_OpcodeRowsDoNotOverlap :
    ∃ (w : Word) (r1 r2 : OpcodeRow), r1 ∈ opcodeTable ∧ r2 ∈ opcodeTable ∧ w &&& r1.mask = r1.pattern ∧
      w &&& r2.mask = r2.pattern := ⟨0, _, _, List.mem_cons_self, List.mem_cons_self, by decide, by decide⟩

theorem witness_FirstWordTellsTheLength :
    (Instr.lds 31 0xFFFF).wellFormed = true ∧ (Instr.movw 30 0).wellFormed = true := by decide

/-- A state, awake and with nothing to accept, from which a step fetches; the conditions StepRunsTheDecodedInstruction and
BadFetchFaults share. -/
def Fetches (s : State) : Prop :=
  s.stopped = false ∧ s.watchdogExpired = false ∧ s.receiveRequests.accepted = none ∧ s.sleeping = false

/-- A one-word and a two-word instruction, the second at the end of the program memory. -/
theorem witness_StepRunsTheDecodedInstruction :
    (Fetches (code [0x0F01] base) ∧ (code [0x0F01] base).progWord 0 = some 0x0F01 ∧
      (code [0x0F01] base).wantsSecondWord 0x0F01 = false ∧ decodeWords [0x0F01, 0] = .ok (.add 16 17)) ∧
    ∃ s : State, s = code [0x940E, 0x0123] { base with pc := 0xFFFE } ∧ Fetches s ∧
      s.progWord s.pc.toNat = some 0x940E ∧ s.wantsSecondWord 0x940E = true ∧
      s.progWord (s.pc.toNat + 1) = some 0x0123 ∧ decodeWords [0x940E, 0x0123] = .ok (.call 0x0123) := by
  refine ⟨⟨?_, by decide, by decide, rfl⟩, _, rfl, ?_, by decide, by decide, by decide, rfl⟩ <;>
    exact ⟨by decide, by decide, by decide, by decide⟩

/-- One state for each of the three faults; the second word is missing at the last word of the program memory. -/
theorem witness_BadFetchFaults :
    (Fetches base ∧ base.progWord base.pc.toNat = none) ∧
    (Fetches (code [0x0001] base) ∧ (code [0x0001] base).progWord 0 = some 0x0001 ∧
      (rowOf 0x0001).isNone = true) ∧
    ∃ s : State, s = code [0x940E] { base with pc := 0xFFFF } ∧ Fetches s ∧ s.progWord s.pc.toNat = some 0x940E ∧
      s.wantsSecondWord 0x940E = true ∧ s.progWord (s.pc.toNat + 1) = none := by
  refine ⟨⟨?_, by decide⟩, ⟨?_, by decide, by decide⟩, _, rfl, ?_, by decide, by decide, by decide⟩ <;>
    exact ⟨by decide, by decide, by decide, by decide⟩

theorem witness_AcceptanceNeedsEnableAndRequest :
    (requested (start 0x80 [])).accepted = some (⟨2, 2, none, true, none, false⟩, 0) := by decide

theorem witness_InterruptEntryPushesPcAndClearsI :
    ∃ s u : State, s = requested (start 0x80 []) ∧ s.stopped = false ∧ s.watchdogExpired = false ∧
      u = s.receiveRequests ∧ u.accepted = some (⟨2, 2, none, true, none, false⟩, 0) ∧
      stackRoom u (retBytes u.part) := by
  refine ⟨_, _, rfl, by decide, by decide, rfl, by decide, ?_⟩
  unfold stackRoom; decide

/-- A source that requests and one that does not. -/
theorem witness_PendingRequestsStay :
    (∃ s : State, s = requested base ∧ s.part.irqs[0]? = some ⟨2, 2, none, true, none, false⟩ ∧ 0 ∈ s.irqPending ∧
      s.part.irqs ≠ [] ∧ 0 ∈ s.receiveRequests.irqPending) ∧
    ∃ s : State, s = described base ∧ s.part.irqs[0]? = some ⟨2, 2, none, true, none, false⟩ ∧ 0 ∉ s.irqPending :=
  ⟨⟨_, rfl, by decide, by decide, by decide, by decide⟩, _, rfl, by decide, by decide⟩

theorem witness_SleepingCoreWaitsStoppedCoreStops :
    (∃ s : State, s = { base with sleeping := true } ∧ s.stopped = false ∧ s.watchdogExpired = false ∧
      s.receiveRequests.accepted = none ∧ s.sleeping = true) ∧ { base with stopped := true }.stopped = true :=
  ⟨⟨_, rfl, by decide, by decide, by decide, by decide⟩, by decide⟩

/-- One cycle short of the timeout, and at it. -/
theorem witness_WatchdogResetsOnlyWhenExpired :
    (∃ s : State, s = { watched base with wdtCount := 999 } ∧ s.stopped = false ∧ s.watchdogExpired = false) ∧
      ∃ s : State, s = { watched base with wdtCount := 1000 } ∧ s.stopped = false ∧ s.watchdogExpired = true :=
  ⟨⟨_, rfl, by decide, by decide⟩, _, rfl, by decide, by decide⟩

/-- A step from a state with a program: the one that a NOP leaves. -/
theorem nop_runs : step (code [0x0000] State.reset) = .next { code [0x0000] State.reset with pc := 1 } := by rfl

theorem reset_code_inv : (code [0x0000] State.reset).Inv := by
  refine ⟨⟨?_, ?_, ?_, ?_, ?_, ?_, ?_, ?_, ?_, ?_, ?_⟩, ?_⟩ <;> try decide
  unfold partWf; decide

theorem witness_EveryStepKeepsTheInvariant : ∃ s t : State, s.Inv ∧ step s = .next t := ⟨_, _, reset_code_inv, nop_runs⟩

theorem witness_NoStepChangesProgramOrPart : ∃ s t : State, step s = .next t := ⟨_, _, nop_runs⟩

/-- One word, two words, and a wrap of the program counter. -/
theorem witness_StraightInstructionsAdvanceByTheirLength :
    (straightWords (.add 16 17) = some 1 ∧ ∃ t, exec (.add 16 17) { base with pc := 0xFFFF } = .next t) ∧
      straightWords (.sts 0x0060 31) = some 2 ∧ ∃ t, exec (.sts 0x0060 31) base = .next t :=
  ⟨⟨rfl, _, rfl⟩, rfl, _, rfl⟩

/-- A part without any optional group. -/
def bare : State :=
  { base with
    part := { base.part with
      hasMul := false
      hasMovw := false
      hasJmpCall := false
      hasIjmpIcall := false
      hasExt := false
      hasLpmRd := false
      hasStackOps := false
      hasSpm := false } }

theorem witness_AbsentGroupIsUnassigned :
    ([.mul 0 0, .muls 16 16, .mulsu 16 16, .fmul 16 16, .fmuls 16 16, .fmulsu 16 16, .movw 0 0, .jmp 0, .call 0, .ijmp,
      .icall, .eijmp, .eicall, .elpm, .elpmRd 0, .elpmRdInc 0, .lpmRd 0, .lpmRdInc 0, .push 0, .pop 0, .spm] :
      List Instr).all (absentOn bare.part) = true := by decide

theorem witness_CompareThenBranchOrders : ∃ t, exec (.cp 16 17) base = .next t := ⟨_, rfl⟩

/-- Two different pairs, and a pair with itself. -/
theorem witness_AddThenAdcAddsSixteenBits :
    (∃ t u, Reg.isEven 30 = true ∧ Reg.isEven 0 = true ∧ exec (.add 30 0) base = .next t ∧
      exec (.adc (30 + 1) (0 + 1)) t = .next u) ∧
    ∃ t u, Reg.isEven 16 = true ∧ exec (.add 16 16) base = .next t ∧ exec (.adc (16 + 1) (16 + 1)) t = .next u :=
  ⟨⟨_, _, rfl, rfl, rfl, rfl⟩, _, _, rfl, rfl, rfl⟩

theorem witness_WordImmediatesWorkOnThePair : Reg.isWordPair 24 = true ∧ Reg.isWordPair 30 = true := by decide

theorem witness_ProductsGoToR1R0 : base.part.hasMul = true := rfl

theorem witness_FractionalProductsAreDoubled : base.part.hasMul = true := rfl

theorem witness_MovesCopyWithoutFlags :
    base.part.hasMovw = true ∧ Reg.isEven 30 = true ∧ Reg.isEven 0 = true := by decide

/-- The lowest and the highest SFR the bit instructions reach, as plain storage. -/
theorem witness_SfrBitInstructionsReadThenWrite :
    Memory.wf (some 0#8) base.sfr = true ∧ coreSfrAt base.part (sfrAddr (0 : BitVec 5).toNat) = none ∧
      sfrKindAt base.part (sfrAddr (0 : BitVec 5).toNat) = some .storage ∧
      coreSfrAt base.part (sfrAddr (31 : BitVec 5).toNat) = none ∧
      sfrKindAt base.part (sfrAddr (31 : BitVec 5).toNat) = some .storage := by decide

/-- A machine whose SFRs $10 is pins and $1F is flags, two of them set. -/
def devices : State :=
  { base with
    part := { base.part with sfrKinds := [(0x30, .pins), (0x3F, .flags)] }
    sfr := [(0x3F, 0x81)] }

theorem witness_SfrBitInstructionsClearOtherFlags :
    (Memory.wf (some 0#8) devices.sfr = true ∧ coreSfrAt devices.part (sfrAddr (31 : BitVec 5).toNat) = none ∧
      archSfrAt devices.part (sfrAddr (31 : BitVec 5).toNat) = none ∧
      sfrKindAt devices.part (sfrAddr (31 : BitVec 5).toNat) = some .flags) ∧
    ∃ s : State, s = mcucrAs 0x3F (some .flags) base ∧ Memory.wf (some 0#8) s.sfr = true ∧
      coreSfrAt s.part (sfrAddr (31 : BitVec 5).toNat) = none ∧
      sfrKindAt s.part (sfrAddr (31 : BitVec 5).toNat) = some .flags ∧
      archSfrAt s.part (sfrAddr (31 : BitVec 5).toNat) = some .mcucr :=
  ⟨by decide, _, rfl, by decide, by decide, by decide, by decide⟩

theorem witness_JumpsGoToTheirTargets :
    base.part.hasJmpCall = true ∧ base.part.hasIjmpIcall = true ∧ base.part.hasExt = true := by decide

/-- With a 16-bit and with a 22-bit PC, the latter down to the lowest SRAM byte; and where the pushes go to an SFR of
plain storage and, below it, to R31. -/
theorem witness_CallsPushTheReturnAddress :
    (stackRoom base (retBytes base.part) ∧ base.part.hasJmpCall = true ∧ base.part.hasIjmpIcall = true ∧
      base.part.hasExt = true) ∧ stackRoom { wide with sp := 0x0062 } (retBytes wide.part) ∧
    Memory.wf (some 0#8) wide.sfr = true ∧ stackStores { wide with sp := 0x0021 } (retBytes wide.part) := by
  refine ⟨⟨?_, by decide⟩, ?_, by decide, ?_⟩
  · unfold stackRoom; decide
  · unfold stackRoom; decide
  · intro k hk
    match k, hk with
    | 0, _ => exact ⟨rfl, rfl⟩
    | 1, _ => exact ⟨rfl, rfl⟩
    | 2, _ => trivial

/-- A 16-bit address at the end of SRAM, and a 22-bit one with two more bits above it. -/
theorem witness_ReturnsPopTheAddress :
    poppable 0x1234 { poke [(0x045E, 0x12), (0x045F, 0x34)] base with sp := 0x045D } ∧
      poppable 0x012345 { poke [(0x21FD, 0xC1), (0x21FE, 0x23), (0x21FF, 0x45)] wide with sp := 0x21FC } :=
  ⟨⟨0x12, 0x34, by decide, by decide, by decide⟩, 0xC1, 0x23, 0x45, by decide, by decide, by decide, by decide⟩

theorem witness_ReturnContinuesBehindTheCall :
    ∃ s t u : State, s = base ∧ stackRoom s (retBytes s.part) ∧ s.sp.toNat < spSpan s.part ∧
      exec (.rcall 5) s = .next t ∧ u.part = t.part ∧ u.sp = t.sp ∧ u.sram = t.sram := by
  refine ⟨_, _, _, rfl, ?_, by decide, rfl, rfl, rfl, rfl⟩
  unfold stackRoom; decide

/-- A condition that holds with a word after it, one that does not hold without any, and one that holds without any, the
last also at the end of the program memory. -/
theorem witness_RegisterSkipsPassOneInstruction :
    skipReady true 0x940E (code [0x1300, 0x940E] base) ∧ skipReady false 0 base ∧ base.reg 0 = base.reg 1 ∧
      (base.reg 1).getLsbD 7 = false ∧ (start 0 [(1, 0x80)]).reg 1 = 0x80 ∧ base.progWord 1 = none ∧
      (code [0x0000] { base with pc := 0xFFFF }).progWord 0x10000 = none := by
  refine ⟨fun _ => by decide, fun h => (nomatch h), by decide, by decide, by decide, by decide, by decide⟩

/-- Plain storage and pins, each with the skip and without it. -/
theorem witness_SfrSkipsReadOnce :
    (coreSfrAt base.part (sfrAddr (31 : BitVec 5).toNat) = none ∧
      sfrKindAt base.part (sfrAddr (31 : BitVec 5).toNat) = some .storage ∧
      skipReady (!(base.sfrByte (sfrAddr 31)).getLsbD 7) 0 (code [0x0000, 0x0000] base) ∧
      skipReady ((base.sfrByte (sfrAddr 31)).getLsbD 7) 0 base) ∧
    coreSfrAt devices.part (sfrAddr (16 : BitVec 5).toNat) = none ∧
      sfrKindAt devices.part (sfrAddr (16 : BitVec 5).toNat) = some .pins ∧
      skipReady (!(Config.pinByte devices.draws).getLsbD 0) 0 (code [0x0000, 0x0000] devices) ∧
      skipReady ((Config.pinByte devices.draws).getLsbD 0) 0 (code [0x0000, 0x0000] devices) := by
  refine ⟨⟨by decide, by decide, fun _ => by decide, fun h => ?_⟩, by decide, by decide, fun _ => by decide,
    fun _ => by decide⟩
  revert h; decide

/-- A register, the first and the last byte of SRAM, as addresses of plain storage. -/
theorem witness_LoadsReadTheAddressedByte :
    plainByte (start 0 [(31, 7)]) 0x001F = some 7 ∧ plainByte (poke [(0x0060, 9)] base) 0x0060 = some 9 ∧
      plainByte (poke [(0x045F, 9)] (start 0 [(30, 0x20), (31, 0x04)]))
        ((poke [(0x045F, 9)] (start 0 [(30, 0x20), (31, 0x04)])).pair 30 + (63 : BitVec 6).setWidth 16) = some 9 ∧
      plainByte ((start 0 [(26, 0x20), (31, 7)]).setPair 26 ((start 0 [(26, 0x20), (31, 7)]).pair 26 - 1))
        ((start 0 [(26, 0x20), (31, 7)]).pair 26 - 1) = some 7 := by decide

theorem witness_StoresWriteTheAddressedByte :
    dataPlace base.part 0x0060 = .sram ∧ dataPlace base.part 0x045F = .sram ∧
      dataPlace base.part ((start 0 [(28, 0x60)]).pair 28) = .sram ∧
      dataPlace base.part ((start 0 [(30, 0x20), (31, 0x04)]).pair 30 + (63 : BitVec 6).setWidth 16) = .sram ∧
      dataPlace base.part ((start 0 [(26, 0x60), (27, 0x04)]).pair 26 - 1) = .sram := by decide

theorem witness_DataAddressesBelow20AreRegisters : (0x0000 : Word).toNat < 32 ∧ (0x001F : Word).toNat < 32 := by decide

/-- SFR 0, and SREG at $3F. -/
theorem witness_SfrIsTheSameInBothSpaces :
    (∃ t, exec (.in_ 5 0) base = .next t) ∧ (∃ t, exec (.in_ 5 0x3F) base = .next t) ∧
      (∃ t, exec (.out 0 5) base = .next t) ∧ ∃ t, exec (.out 0x3E 5) base = .next t :=
  ⟨⟨_, rfl⟩, ⟨_, rfl⟩, ⟨_, rfl⟩, _, rfl⟩

/-- Accesses through zero pointers reach register 0; pre-decremented ones reach an SFR and SRAM. -/
theorem witness_PointerAccessIsDirectAccess :
    (∃ t, exec (.lds 5 (base.pair 26)) base = .next t) ∧
      (∃ t, exec (.lds 5 (base.pair 28 + (63 : BitVec 6).setWidth 16)) base = .next t) ∧
      (∃ t, exec (.lds 5 (base.pair 30 + (0 : BitVec 6).setWidth 16)) base = .next t) ∧
      (∃ t, exec (.sts (base.pair 26) 5) base = .next t) ∧
      (∃ t, exec (.sts (base.pair 28 + (63 : BitVec 6).setWidth 16) 5) base = .next t) ∧
      (∃ t, exec (.sts (base.pair 30 + (0 : BitVec 6).setWidth 16) 5) base = .next t) ∧
      ((5 : Reg) ≠ 30 ∧ (5 : Reg) ≠ 30 + 1) ∧ (∃ t, exec (.lds 5 (base.pair 30)) base = .next t) ∧
      (∃ t, exec (.sts (base.pair 30) 5) base = .next t) ∧
      ∃ s : State, s = start 0 [(30, 0x60)] ∧
        (∃ t, exec (.lds 5 (s.pair 30 - 1)) (s.setPair 30 (s.pair 30 - 1)) = .next t) ∧
        ∃ t, exec (.sts (s.pair 30 - 1) 5) (s.setPair 30 (s.pair 30 - 1)) = .next t := by
  refine ⟨⟨_, rfl⟩, ⟨_, rfl⟩, ⟨_, rfl⟩, ⟨_, rfl⟩, ⟨_, rfl⟩, ⟨_, rfl⟩, by decide, ⟨_, rfl⟩, ⟨_, rfl⟩, _, rfl,
    ⟨_, rfl⟩, _, rfl⟩

theorem witness_DataRegisterInUpdatedPointerStops :
    updatedPointer (.ldXInc 26) = some (26, 26) ∧ updatedPointer (.stYDec 29) = some (28, 29) ∧
      updatedPointer (.elpmRdInc 31) = some (30, 31) ∧ absentOn base.part (.elpmRdInc 31) = false := by decide

/-- A machine none of whose SFRs is described, MCUCR neither. -/
def undescribed : State := { base with part := { base.part with sfrDefault := none } }

/-- The clauses of UnreachableDataStops on forms and on stacks: an undescribed SFR, highest by a 5-bit number and by a
6-bit number below RAMPZ; POP behind SRAM; an updated pointer; the second byte of a call and of an interrupt's entry
below R0; the second byte of a return behind SRAM. -/
theorem witness_UnreachableDataStops_forms :
    (readFault undescribed ((0x3A : BitVec 6).setWidth 16 + 0x20) = some (.sfrUndescribed 0x5A) ∧
      readFault undescribed ((0x1F : BitVec 5).setWidth 16 + 0x20) = some (.sfrUndescribed 0x3F) ∧
      writeFault undescribed.part ((0x3A : BitVec 6).setWidth 16 + 0x20) = some (.sfrUndescribed 0x5A) ∧
      readFault base (spMod base.part (base.sp + 1)) = some (.dataAddressUnimplemented 0x0460) ∧
      absentOn base.part (.pop 0) = false) ∧
    (pointerFree (.ldXInc 25) ∧ pointerFree (.in_ 0 0)) ∧
    (1 < retBytes base.part ∧ stackStores { base with sp := 0 } 1 ∧
      writeFault base.part (spDown base.part 0 1) = some (.dataAddressUnimplemented 0xFFFF)) ∧
    (∃ r s : State, r = { requested (start 0x80 []) with sp := 0 } ∧ r.stopped = false ∧ r.watchdogExpired = false ∧
      s = r.receiveRequests ∧ s.accepted = some (⟨2, 2, none, true, none, false⟩, 0) ∧ stackStores s 1 ∧
      writeFault s.part (spDown s.part s.sp 1) = some (.dataAddressUnimplemented 0xFFFF)) ∧
    ∃ s : State, s = { poke [(0x045F, 9)] base with sp := 0x045E } ∧
      (∀ l < 1, plainByte s (spUp s.part s.sp (l + 1)) ≠ none) ∧
      readFault s (spUp s.part s.sp 2) = some (.dataAddressUnimplemented 0x0460) := by
  have hz : ∀ k, k < 1 → k = 0 := by omega
  refine ⟨by decide, ⟨?_, ?_⟩, ⟨by decide, ?_, by decide⟩,
    ⟨_, _, rfl, by decide, by decide, rfl, by decide, ?_, by decide⟩, _, rfl, by decide, by decide⟩
  · intro p r h; cases h; decide
  · intro p r h; cases h
  · intro k hk; rw [hz k hk]; trivial
  · intro k hk; rw [hz k hk]; trivial

/-- Each clause at the ends of its range: behind SRAM, at the top of the address space; the ends of SRAM, unwritten; the
ends of the SFRs, undescribed. -/
theorem witness_UnreachableDataStops :
    (32 ≤ (0x0460 : Word).toNat ∧ 0x60 ≤ (0x0460 : Word).toNat ∧ base.part.sramStart ≤ (0x0460 : Word).toNat ∧
      base.part.ramEnd < (0x0460 : Word).toNat ∧ base.part.ramEnd < (0xFFFF : Word).toNat) ∧
    (base.part.sramStart ≤ (0x0060 : Word).toNat ∧ (0x045F : Word).toNat ≤ base.part.ramEnd ∧
      base.sramByte 0x0060 = none ∧ base.sramByte 0x045F = none) ∧
    ∃ s : State, s = undescribed ∧
      dataPlace s.part 0x0020 = .sfr ∧ coreSfrAt s.part 0x0020 = none ∧ sfrKindAt s.part 0x0020 = none ∧
      dataPlace s.part 0x005A = .sfr ∧ coreSfrAt s.part 0x005A = none ∧ sfrKindAt s.part 0x005A = none :=
  ⟨by decide, by decide, _, rfl, by decide, by decide, by decide, by decide, by decide, by decide⟩

theorem witness_LpmReadsTheByteAtZ :
    (image (start 0 [(30, 7)])).progWord (((start 0 [(30, 7)]).pair 30).toNat / 2) = some 0xAA55 ∧
      (image (start 0 [(30, 0xFF), (31, 0xFF)])).progWord (0xFFFF / 2) = some 0xBEEF ∧ base.part.hasLpmRd = true := by
  decide

theorem witness_ElpmReadsTheByteAtRampzZ :
    wide.part.hasExt = true ∧ (image wide).progWord ((2 * 65536 + 0) % (2 * pcSpan wide.part) / 2) = some 0xF00D ∧
      (image base).progWord ((2 * 65536 + 6) % (2 * pcSpan base.part) / 2) = some 0xAA55 := by decide

/-- The ends of SRAM; the ends of the register area and the lowest SFR; SREG as an SFR for the two clauses of STS and
LDS. -/
theorem witness_PushAndPopMoveTheStackPointer :
    (base.part.hasStackOps = true ∧ dataPlace base.part base.sp = .sram ∧ dataPlace base.part 0x0060 = .sram ∧
      plainByte (poke [(0x045F, 9)] base) (spMod base.part (0x045E + 1)) = some 9) ∧
    (Memory.wf (some 0#8) base.sfr = true ∧ storePlace base.part 0x0000 ∧ storePlace base.part 0x001F ∧
      storePlace base.part 0x0020) ∧
    (∃ t, exec (.sts 0x005F 3) { base with sp := 0x005F } = .next t) ∧
    ∃ t, exec (.lds 3 0x005F) { base with sp := 0x005F } = .next t :=
  ⟨by decide, ⟨by decide, trivial, trivial, rfl, rfl⟩, ⟨_, rfl⟩, _, rfl⟩

theorem witness_PopAfterPushGivesTheByte :
    base.part.hasStackOps = true ∧ dataPlace base.part base.sp = .sram ∧ base.sp.toNat < spSpan base.part ∧
      ∃ t, exec (.push 5) base = .next t := ⟨by decide, by decide, by decide, _, rfl⟩

/-- With EIND, RAMPZ and MCUCR, the last under each description; and a part with an 8-bit SP at its highest value. -/
theorem witness_CoreRegistersAsSfrs :
    (base.part.hasExt = true ∧ archSfrAt base.part (sfrAddr (0x35 : BitVec 6).toNat) = some .mcucr ∧
      sfrKindAt base.part (sfrAddr (0x35 : BitVec 6).toNat) = some .storage) ∧
    (∀ k ∈ [none, some SfrKind.pins, some .flags], ∃ s : State, s = mcucrAs 0x55 k base ∧
      archSfrAt s.part (sfrAddr (0x35 : BitVec 6).toNat) = some .mcucr ∧
      sfrKindAt s.part (sfrAddr (0x35 : BitVec 6).toNat) = k) ∧
    ∃ s : State, s = { base with part := { base.part with spWidth := .bits8, resetSp := 0xFF }, sp := 0x00FF } ∧
      s.part.spWidth = .bits8 ∧ s.sp.toNat < spSpan s.part :=
  ⟨by decide, fun _ _ => ⟨_, rfl, by rfl, by rfl⟩, _, rfl, rfl, by decide⟩

theorem witness_InAndOutReachTheSfr :
    Memory.wf (some 0#8) devices.sfr = true ∧ coreSfrAt devices.part (sfrAddr (0 : BitVec 6).toNat) = none ∧
      sfrKindAt devices.part (sfrAddr (0 : BitVec 6).toNat) = some .storage ∧
      coreSfrAt devices.part (sfrAddr (0x3A : BitVec 6).toNat) = none ∧
      sfrKindAt devices.part (sfrAddr (0x3A : BitVec 6).toNat) = some .storage ∧
      coreSfrAt devices.part (sfrAddr (0x10 : BitVec 6).toNat) = none ∧
      sfrKindAt devices.part (sfrAddr (0x10 : BitVec 6).toNat) = some .pins ∧
      coreSfrAt devices.part (sfrAddr (0x1F : BitVec 6).toNat) = none ∧
      archSfrAt devices.part (sfrAddr (0x1F : BitVec 6).toNat) = none ∧
      sfrKindAt devices.part (sfrAddr (0x1F : BitVec 6).toNat) = some .flags := by decide

/-- The clause of an SFR with functions of its own. -/
theorem witness_InAndOutReachTheSfr_described :
    Memory.wf (some 0#8) (described base).sfr = true ∧
      coreSfrAt (described base).part (sfrAddr (0x10 : BitVec 6).toNat) = none ∧
      ∃ b, sfrKindAt (described base).part (sfrAddr (0x10 : BitVec 6).toNat) = some (.described b) :=
  ⟨by decide, by decide, _, rfl⟩

theorem witness_SystemInstructionsTouchHiddenStateOnly :
    base.part.hasOcd = false ∧ { base.part with hasOcd := true }.hasOcd = true := by decide

theorem witness_SpmStops : base.part.hasSpm = true := rfl

end Sys2Proof.Tests
end

section
/-! SUPPORT. Every step keeps the machine invariant (O15): the shared operations of the instructions keep it, so every
instruction does, so every boundary does. -/

namespace Sys2Proof.Machine

section

variable {p : Part} {m : Memory} {s t : State}

-- The results of instructions that cannot fault.

/-- `result` keeps the invariant. -/
theorem InvOn.result (h : InvOn p m s) (d v sr) : InvOn p m (s.result d v sr) :=
  ((h.setReg d v).setSreg sr).advance 1

/-- `flagsOnly` keeps the invariant. -/
theorem InvOn.flagsOnly (h : InvOn p m s) (sr) : InvOn p m (s.flagsOnly sr) := (h.setSreg sr).advance 1

/-- `resultPair` keeps the invariant. -/
theorem InvOn.resultPair (h : InvOn p m s) (d v sr) : InvOn p m (s.resultPair d v sr) :=
  ((h.setPair d v).setSreg sr).advance 1

/-- A new value of a register keeps the invariant, with pc going on. -/
theorem InvOn.move (h : InvOn p m s) (d v n) : InvOn p m ((s.setReg d v).advance n) := (h.setReg d v).advance n

/-- `branch` keeps the invariant. -/
theorem InvOn.branch (h : InvOn p m s) (c k) : InvOn p m (s.branch c k) := by
  cases c with
  | true => exact h.jump _
  | false => exact h.advance _

/-- A new `irq_delay` keeps the invariant. -/
theorem InvOn.setDelay (h : InvOn p m s) (dl : IrqDelay) : InvOn p m { s with irqDelay := dl } :=
  h.misc s.sreg s.rampz s.eind s.mcucr dl s.sleeping s.draws

/-- A new value of `sleeping` keeps the invariant. -/
theorem InvOn.setSleeping (h : InvOn p m s) (b : Bool) : InvOn p m { s with sleeping := b } :=
  h.misc s.sreg s.rampz s.eind s.mcucr s.irqDelay b s.draws

/-- A new RAMPZ keeps the invariant. -/
theorem InvOn.setRampz (h : InvOn p m s) (v : Byte) : InvOn p m { s with rampz := v } :=
  h.misc s.sreg v s.eind s.mcucr s.irqDelay s.sleeping s.draws

/-- A new watchdog count keeps the invariant where a part without a watchdog keeps its count of 0 (R417). -/
theorem InvOn.setCount (h : InvOn p m s) (n : Nat) :
    InvOn p m { s with wdtCount := if s.part.watchdog.isSome then n else s.wdtCount } := by
  obtain ⟨hs, hp, hm⟩ := h
  refine ⟨{ hs with count := fun hw => ?_ }, hp, hm⟩
  have hw' : s.part.watchdog = none := hw
  simp [hw', hs.count hw']

/-- A stopped core keeps the invariant on a part with `HAS_OCD` (R353). -/
theorem InvOn.stop (h : InvOn p m s) (ho : s.part.hasOcd = true) : InvOn p m { s with stopped := true } :=
  ⟨{ h.1 with stop := fun _ => ho }, h.2⟩

/-- `setFlag` keeps the invariant. -/
theorem InvOn.setFlag (h : InvOn p m s) (b) : InvOn p m (s.setFlag b) :=
  ((h.setSreg (sregWithBit s.sreg b true)).setDelay (if b = 7#3 then .set else s.irqDelay)).advance 1

/-- `clearFlag` keeps the invariant. -/
theorem InvOn.clearFlag (h : InvOn p m s) (b) : InvOn p m (s.clearFlag b) := h.flagsOnly _

-- The operand forms that may fault.

/-- `load` keeps the invariant. -/
theorem InvOn.load {d a n} (h : InvOn p m s) (e : s.load d a n = .ok t) : InvOn p m t := by
  obtain ⟨v, u, hr, rfl⟩ := State.load_ok e
  exact (h.memRead hr).move d v n

/-- `loadInc` keeps the invariant. -/
theorem InvOn.loadInc {d r} (h : InvOn p m s) (e : s.loadInc d r = .ok t) : InvOn p m t := by
  obtain ⟨v, u, hr, rfl⟩ := State.loadInc_ok e
  exact (((h.memRead hr).setReg d v).setPair r _).advance 1

/-- `loadDec` keeps the invariant. -/
theorem InvOn.loadDec {d r} (h : InvOn p m s) (e : s.loadDec d r = .ok t) : InvOn p m t := by
  obtain ⟨v, u, hr, rfl⟩ := State.loadDec_ok e
  exact ((h.setPair r _).memRead hr).move d v 1

/-- `store` keeps the invariant. -/
theorem InvOn.store {a r n} (h : InvOn p m s) (e : s.store a r n = .ok t) : InvOn p m t := by
  obtain ⟨u, hw, rfl⟩ := State.store_ok e
  exact (h.memWrite hw).advance n

/-- `storeInc` keeps the invariant. -/
theorem InvOn.storeInc {d r} (h : InvOn p m s) (e : s.storeInc d r = .ok t) : InvOn p m t := by
  obtain ⟨u, hw, rfl⟩ := State.storeInc_ok e
  exact ((h.memWrite hw).setPair d _).advance 1

/-- `storeDec` keeps the invariant. -/
theorem InvOn.storeDec {d r} (h : InvOn p m s) (e : s.storeDec d r = .ok t) : InvOn p m t := by
  obtain ⟨u, hw, rfl⟩ := State.storeDec_ok e
  exact ((h.setPair d _).memWrite hw).advance 1

/-- `loadProg` keeps the invariant. -/
theorem InvOn.loadProg {d b} (h : InvOn p m s) (e : s.loadProg d b = .ok t) : InvOn p m t := by
  obtain ⟨v, _, rfl⟩ := State.loadProg_ok e
  exact h.move d v 1

/-- `call` keeps the invariant. -/
theorem InvOn.call {n a} (h : InvOn p m s) (e : s.call n a = .ok t) : InvOn p m t := by
  obtain ⟨u, hu, rfl⟩ := State.call_ok e
  exact (h.pushPc hu).jump a

/-- A read of an SFR by its number, which lies below every extended SFR (R62), keeps the invariant. -/
theorem InvOn.ioReadNumber {n v} (h : InvOn p m s) (hn : n < 0x40) (e : s.ioRead (sfrAddr n) = .ok (v, t)) :
    InvOn p m t := by
  have hs := h.start
  exact h.ioRead (by unfold sfrAddr; omega) (by unfold sfrAddr; omega) e

/-- A write of an SFR by its number keeps the invariant. -/
theorem InvOn.ioWriteNumber {n v} (h : InvOn p m s) (hn : n < 0x40) (e : s.ioWrite (sfrAddr n) v = .ok t) :
    InvOn p m t := by
  have hs := h.start
  exact h.ioWrite (by unfold sfrAddr; omega) (by unfold sfrAddr; omega) e

/-- `modifySfr` keeps the invariant. -/
theorem InvOn.modifySfr {a b v} (h : InvOn p m s) (e : s.modifySfr a b v = .ok t) : InvOn p m t := by
  obtain ⟨x, u, w, hr, hw, rfl⟩ := State.modifySfr_ok e
  have ha : a.toNat < 0x40 := by omega
  exact ((h.ioReadNumber ha hr).ioWriteNumber ha hw).advance 1

/-- Returning from an interrupt keeps the invariant. -/
theorem InvOn.leaveInterrupt (h : InvOn p m s) (e : s.leaveInterrupt = .ok t) : InvOn p m t := by
  obtain ⟨a, u, hu, rfl⟩ := State.leaveInterrupt_ok e
  exact (((h.popPc hu).setSreg (sregWithBit u.sreg 7 true)).setDelay .set).jump a

/-- Taking an interrupt keeps the invariant. -/
theorem InvOn.enterInterrupt {src n} (h : InvOn p m s) (e : s.enterInterrupt src n = .ok t) : InvOn p m t := by
  obtain ⟨u, hu, e⟩ := bind_ok e
  cases e
  have hi := ((h.setSleeping false).pushPc hu).setSreg (sregWithBit u.sreg 7 false)
  cases src.ackClears with
  | true => exact (hi.pendFilter fun k => k != n).jump src.vector
  | false => exact hi.jump src.vector

end

-- One instruction.

/-- An outcome keeps the invariant: a next state meets it, and a fault or a refusal has none. -/
def KeepsInvOn (p : Part) (m : Memory) (o : Host.Outcome State Fault Refusal) : Prop := ∀ t, o = .next t → InvOn p m t

section

variable {p : Part} {m : Memory} {s t : State} {k : Host.Outcome State Fault Refusal}

/-- A next state that meets the invariant. -/
theorem KeepsInvOn.next (h : InvOn p m t) : KeepsInvOn p m (.next t) := by
  intro u e; cases e; exact h

/-- A fault has no next state. -/
theorem KeepsInvOn.fault (f : Fault) : KeepsInvOn p m (.fault f) := by
  intro u e; cases e

/-- An effect that may fault keeps the invariant when its results meet it. -/
theorem KeepsInvOn.orFault {r : Except Fault State} (h : ∀ {t}, r = .ok t → InvOn p m t) :
    KeepsInvOn p m (orFault r) :=
  fun _ e => h (orFault_next.1 e)

/-- The check for an optional group keeps the invariant. -/
theorem KeepsInvOn.ifPresent {b i} (h : KeepsInvOn p m k) : KeepsInvOn p m (ifPresent b i s k) :=
  fun t e => h t (ifPresent_next e).2

/-- The check of the data register against the pointer keeps the invariant. -/
theorem KeepsInvOn.unlessInPointer {r d i} (h : KeepsInvOn p m k) : KeepsInvOn p m (unlessInPointer r d i s k) :=
  fun t e => h t (unlessInPointer_next e).2

/-- Every instruction keeps the invariant, with the part and the program memory. The cases are grouped by the shared
operation that is the instruction's meaning. -/
theorem InvOn.exec (h : InvOn p m s) (i : Instr) : KeepsInvOn p m (exec i s) := by
  cases i with
  -- a register and SREG from registers and constants
  | cpc | cp | cpi | bst => exact .next (h.flagsOnly _)
  | sbc | add | sub | adc | and_ | eor | or_ | sbci | subi | ori | andi | com | neg | inc | asr | lsr | ror | dec
  | clr | tst | lsl | rol | cbr | sbr => exact .next (h.result _ _ _)
  | adiw | sbiw => exact .next (h.resultPair _ _ _)
  | mul | muls | mulsu | fmul | fmuls | fmulsu => exact .ifPresent (.next (h.resultPair _ _ _))
  | mov | ldi | swap | bld | ser => exact .next (h.move _ _ _)
  | movw => exact .ifPresent (.next ((h.setPair _ _).advance 1))
  -- bits of SREG
  | bset | sec | sez | sen | sev | ses | seh | set_ | sei => exact .next (h.setFlag _)
  | bclr | clc | clz | cln | clv | cls | clh | clt | cli => exact .next (h.clearFlag _)
  -- branches, jumps, calls, returns, skips
  | brbs | brbc | brcc | brcs | brsh | brlo | brne | breq | brpl | brmi | brvc | brvs | brge | brlt | brhc | brhs | brtc
  | brts | brid | brie | bric => exact .next (h.branch _ _)
  | rjmp => exact .next (h.jump _)
  | jmp | ijmp | eijmp => exact .ifPresent (.next (h.jump _))
  | rcall => exact .orFault h.call
  | call | icall | eicall => exact .ifPresent (.orFault h.call)
  | ret =>
    refine .orFault fun e => ?_
    obtain ⟨⟨a, u⟩, hu, e⟩ := bind_ok e
    cases e
    exact (h.popPc hu).jump a
  | reti => exact .orFault h.leaveInterrupt
  | cpse | sbrc | sbrs => exact .orFault h.skip
  | sbic a | sbis a =>
    refine .orFault fun e => ?_
    obtain ⟨⟨v, u⟩, hr, e⟩ := bind_ok e
    exact (h.ioReadNumber (by omega) hr).skip e
  -- the data space
  | lds | ldX | ldY | ldZ | lddY | lddZ => exact .orFault h.load
  | ldXInc | ldYInc | ldZInc => exact .unlessInPointer (.orFault h.loadInc)
  | ldXDec | ldYDec | ldZDec => exact .unlessInPointer (.orFault h.loadDec)
  | sts | stX | stY | stZ | stdY | stdZ => exact .orFault h.store
  | stXInc | stYInc | stZInc => exact .unlessInPointer (.orFault h.storeInc)
  | stXDec | stYDec | stZDec => exact .unlessInPointer (.orFault h.storeDec)
  | push =>
    refine .ifPresent (.orFault fun e => ?_)
    obtain ⟨u, hu, e⟩ := bind_ok e
    cases e
    exact (h.push8 hu).advance 1
  | pop d =>
    refine .ifPresent (.orFault fun e => ?_)
    obtain ⟨⟨v, u⟩, hu, e⟩ := bind_ok e
    cases e
    exact (h.pop8 hu).move d v 1
  | in_ d a =>
    refine .orFault fun e => ?_
    obtain ⟨⟨v, u⟩, hr, e⟩ := bind_ok e
    cases e
    exact (h.ioReadNumber a.isLt hr).move d v 1
  | out a =>
    refine .orFault fun e => ?_
    obtain ⟨u, hw, e⟩ := bind_ok e
    cases e
    exact (h.ioWriteNumber a.isLt hw).advance 1
  | sbi | cbi => exact .orFault h.modifySfr
  -- the program memory
  | lpm => exact .orFault h.loadProg
  | lpmRd | elpm | elpmRd => exact .ifPresent (.orFault h.loadProg)
  | lpmRdInc d =>
    refine .ifPresent (.unlessInPointer (.orFault fun e => ?_))
    obtain ⟨v, _, e⟩ := bind_ok e
    cases e
    exact ((h.setReg d v).setPair regZ _).advance 1
  | elpmRdInc d =>
    refine .ifPresent (.unlessInPointer (.orFault fun e => ?_))
    obtain ⟨v, _, e⟩ := bind_ok e
    cases e
    exact (((h.setReg d v).setRampz _).setPair regZ _).advance 1
  | spm => exact .ifPresent (.fault _)
  -- the system
  | nop => exact .next (h.advance 1)
  | sleep => exact .next ((h.advance 1).setSleeping _)
  | wdr => exact .next ((h.advance 1).setCount 0)
  | break_ =>
    refine .next ?_
    split
    · exact h.stop ‹_›
    · exact h.advance 1

-- One boundary.

/-- `startDelay` keeps the invariant. -/
theorem InvOn.startDelay (h : InvOn p m s) : InvOn p m s.startDelay := h.setDelay _

/-- `complete` keeps the invariant. -/
theorem InvOn.complete (h : InvOn p m s) : InvOn p m s.complete := h.setDelay _

/-- `charge` keeps the invariant. -/
theorem InvOn.charge (h : InvOn p m s) (n) : InvOn p m (s.charge n) := h.setCount _

/-- `watchdogPassed` keeps the invariant. -/
theorem InvOn.watchdogPassed (h : InvOn p m s) : InvOn p m s.watchdogPassed := by
  unfold State.watchdogPassed
  split
  · exact h.drawn
  · exact h

/-- The reset state of a well-formed part with a canonical image is sound (R39 to R47). -/
theorem sound_resetOf (hp : partWf p) (hm : Memory.wf none m = true) : (State.resetOf p m).Sound := by
  have ⟨_, _, _, _, _, hcanonical, hrange, hsp, _⟩ := hp
  exact {
    part := hp
    pc := by cases hw : p.pcWidth <;> simp [State.resetOf, pcSpan, hw]
    sp := hsp
    sfrCanonical := hcanonical
    sfrRange := hrange
    sramCanonical := rfl
    sramRange := rfl
    progCanonical := hm
    pending := ⟨rfl, fun _ hn => by cases hn⟩
    stop := fun hs => by cases hs
    count := fun _ => rfl }

/-- A reset within a run keeps the invariant. -/
theorem InvOn.resetInRun (h : InvOn p m s) : InvOn p m s.resetInRun := by
  obtain ⟨hs, hp, hm⟩ := h
  exact ⟨{ sound_resetOf hs.part hs.progCanonical with }, hp, hm⟩

/-- A next state of `runInstruction` is what the fetched instruction leaves, completed and with its cycles counted. -/
theorem State.runInstruction_next {ex : Instr → State → Host.Outcome State Fault Refusal}
    (e : s.runInstruction ex = .next t) :
    ∃ i u, s.fetch = .ok i ∧ ex i s.startDelay = .next u ∧ t = u.complete.charge (countedCycles i s.startDelay) := by
  unfold State.runInstruction at e
  split at e
  · rename_i i hi
    split at e
    · rename_i u hu
      cases e
      exact ⟨i, u, hi, hu, rfl⟩
    · cases e
    · cases e
  · cases e

/-- A next state of `proceed` is that of the accepted interrupt's entry, the sleeping state itself, or that of the
instruction run. -/
theorem State.proceed_next {ex : Instr → State → Host.Outcome State Fault Refusal} (e : s.proceed ex = .next t) :
    (∃ src n, s.accepted = some (src, n) ∧ s.enterInterrupt src n = .ok t) ∨
      (s.accepted = none ∧ s.sleeping = true ∧ t = s) ∨
      (s.accepted = none ∧ s.sleeping = false ∧ s.runInstruction ex = .next t) := by
  unfold State.proceed at e
  split at e
  · rename_i c hc
    exact .inl ⟨c.1, c.2, hc, orFault_next.1 e⟩
  · rename_i hn
    split at e
    · rename_i hs
      cases e
      exact .inr (.inl ⟨hn, hs, rfl⟩)
    · rename_i hs
      exact .inr (.inr ⟨hn, by simpa using hs, e⟩)

/-- A next state of `step` is a reset by the expired watchdog, or what `proceed` leaves once the devices have acted. -/
theorem step_next (e : step s = .next t) :
    s.stopped = false ∧
      ((s.watchdogExpired = true ∧ Config.watchdogFires s.draws = true ∧ t = s.resetInRun) ∨
        s.watchdogPassed.receiveRequests.proceed exec = .next t) := by
  unfold step State.boundary at e
  split at e
  · cases e
  · rename_i hs
    refine ⟨by simpa using hs, ?_⟩
    split at e
    · rename_i hw
      obtain ⟨hexpired, hfires⟩ := Bool.and_eq_true_iff.1 hw
      cases e
      exact .inl ⟨hexpired, hfires, rfl⟩
    · exact .inr e

/-- A fetched and completed instruction keeps the invariant and leaves no delay in the middle of one. -/
theorem InvOn.runInstruction (h : InvOn p m s) (e : s.runInstruction Machine.exec = .next t) :
    InvOn p m t ∧ NotEnding t := by
  obtain ⟨i, u, -, hu, rfl⟩ := State.runInstruction_next e
  exact ⟨(h.startDelay.exec i u hu).complete.charge _, (notEnding_complete u).charge _⟩

/-- What happens once the devices have acted keeps the invariant at a boundary. -/
theorem InvOn.proceed (h : InvOn p m s) (hd : NotEnding s) (e : s.proceed Machine.exec = .next t) :
    InvOn p m t ∧ NotEnding t := by
  rcases State.proceed_next e with ⟨src, n, -, he⟩ | ⟨-, -, rfl⟩ | ⟨-, -, he⟩
  · exact ⟨h.enterInterrupt he, hd.enterInterrupt he⟩
  · exact ⟨h, hd⟩
  · exact h.runInstruction he

/-- The devices' requests and the watchdog's chance leave the delay as it was. -/
theorem NotEnding.devices (hd : NotEnding s) : NotEnding s.watchdogPassed.receiveRequests := by
  simpa [NotEnding] using hd

/-- A reset within a run leaves no delay. -/
theorem notEnding_resetInRun (s : State) : NotEnding s.resetInRun := by
  have hoff : s.resetInRun.irqDelay = .off := rfl
  simp [NotEnding, hoff]

/-- One step keeps the invariant at a boundary, with the part and the program memory. -/
theorem InvOn.step (h : InvOn p m s) (hd : NotEnding s) (e : step s = .next t) : InvOn p m t ∧ NotEnding t := by
  obtain ⟨-, ⟨-, -, rfl⟩ | he⟩ := step_next e
  · exact ⟨h.resetInRun, notEnding_resetInRun s⟩
  · exact h.watchdogPassed.recv.proceed hd.devices he

end

/-- Settles O15: a step keeps the stronger `InvOn` of the state's own part and program memory, and `NotEnding`. -/
theorem everyStepKeepsTheInvariant : Obligations.EveryStepKeepsTheInvariant := by
  intro s t hs e
  obtain ⟨⟨hsound, -, -⟩, hdelay⟩ := InvOn.step ⟨hs.toSound, rfl, rfl⟩ hs.delay e
  exact ⟨hsound, hdelay⟩

end Sys2Proof.Machine
end

section
/-! SUPPORT. What the decoder accepts (O2): each row of the opcode table builds a well-formed core instruction whose
encoding is the words it was built from, so no bit of an accepted word is lost (R22, R104, R111). -/

namespace Sys2Proof

open BitVec

-- The bits of a word, cut out and put back.

/-- The bits a mask covers are those of the pattern that the masked word equals. -/
theorem extractLsb'_of_matches {w mask pattern : Word} (h : w &&& mask = pattern) (start n : Nat)
    (hm : mask.extractLsb' start n = BitVec.allOnes n := by decide) :
    w.extractLsb' start n = pattern.extractLsb' start n := by
  rw [← h, BitVec.extractLsb'_and, hm, BitVec.and_allOnes]

/-- Neighbouring bits of a value joined: those from `mid` on, and `n` from `start` up to there. -/
theorem extractLsb'_join {w m n start mid : Nat} (x : BitVec w) (h : mid = start + n) :
    x.extractLsb' mid m ++ x.extractLsb' start n = x.extractLsb' start (m + n) :=
  extractLsb'_append_extractLsb'_eq_extractLsb' h

-- Each format of R103: its fields, read from a word and put back into it, give the word.

theorem encodeRR_fields (w : Word) : encodeRR (w.extractLsb' 10 6) (fieldD5 w) (fieldR5 w) = w := by
  rw [encodeRR, fieldD5, fieldR5, extractLsb'_append_eq_left, extractLsb'_append_eq_right]
  simp (disch := rfl) only [extractLsb'_join]
  exact extractLsb'_eq_self

theorem encodeRI_fields (w : Word) : encodeRI (w.extractLsb' 12 4) (fieldDUpper w) (fieldK8 w) = w := by
  rw [encodeRI, fieldDUpper, fieldK8, extractLsb'_append_eq_left, extractLsb'_append_eq_right,
    extractLsb'_append_eq_right]
  simp (disch := rfl) only [extractLsb'_join]
  exact extractLsb'_eq_self

theorem encodeR1_fields (w : Word) : encodeR1 (w.extractLsb' 9 7) (fieldD5 w) (w.extractLsb' 0 4) = w := by
  rw [encodeR1, fieldD5]
  simp (disch := rfl) only [extractLsb'_join]
  exact extractLsb'_eq_self

theorem encodeWI_fields (w : Word) : encodeWI (w.extractLsb' 8 8) (fieldDPair w) (fieldK6 w) = w := by
  rw [encodeWI, fieldDPair, fieldK6, extractLsb'_append_eq_left, extractLsb'_append_eq_right,
    extractLsb'_append_eq_of_le (by decide), extractLsb'_append_eq_right]
  simp (disch := rfl) only [extractLsb'_join]
  exact extractLsb'_eq_self

theorem encodeMovw_fields (w : Word) (h : w.extractLsb' 8 8 = 0x01#8) :
    encodeMovw (fieldDEven w) (fieldREven w) = w := by
  rw [encodeMovw, fieldDEven, fieldREven, extractLsb'_append_eq_left, extractLsb'_append_eq_left, ← h]
  simp (disch := rfl) only [extractLsb'_join]
  exact extractLsb'_eq_self

theorem encodeMuls_fields (w : Word) (h : w.extractLsb' 8 8 = 0x02#8) :
    encodeMuls (fieldDUpper w) (fieldRUpper w) = w := by
  rw [encodeMuls, fieldDUpper, fieldRUpper, extractLsb'_append_eq_right, extractLsb'_append_eq_right, ← h]
  simp (disch := rfl) only [extractLsb'_join]
  exact extractLsb'_eq_self

theorem encodeRR3_fields (w : Word) (h : w.extractLsb' 8 8 = 0x03#8) :
    encodeRR3 (w.extractLsb' 7 1) (fieldDMulsu w) (w.extractLsb' 3 1) (fieldRMulsu w) = w := by
  rw [encodeRR3, fieldDMulsu, fieldRMulsu, extractLsb'_append_eq_right, extractLsb'_append_eq_right, ← h]
  simp (disch := rfl) only [extractLsb'_join]
  exact extractLsb'_eq_self

theorem encodeSreg_fields (w : Word) (hhi : w.extractLsb' 8 8 = 0x94#8) (hlo : w.extractLsb' 0 4 = 8#4) :
    encodeSreg (w.extractLsb' 7 1) (fieldS w) = w := by
  rw [encodeSreg, fieldS, ← hhi, ← hlo]
  simp (disch := rfl) only [extractLsb'_join]
  exact extractLsb'_eq_self

theorem encodeRB_fields (w : Word) (h : w.extractLsb' 3 1 = 0#1) :
    encodeRB (w.extractLsb' 9 7) (fieldD5 w) (fieldB w) = w := by
  rw [encodeRB, fieldD5, fieldB, ← h]
  simp (disch := rfl) only [extractLsb'_join]
  exact extractLsb'_eq_self

theorem encodeBR_fields (w : Word) : encodeBR (w.extractLsb' 10 6) (fieldB w) (fieldK7 w) = w := by
  rw [encodeBR, fieldB, fieldK7]
  simp (disch := rfl) only [extractLsb'_join]
  exact extractLsb'_eq_self

theorem encodeRel12_fields (w : Word) : encodeRel12 (w.extractLsb' 12 4) (fieldK12 w) = w := by
  rw [encodeRel12, fieldK12]
  simp (disch := rfl) only [extractLsb'_join]
  exact extractLsb'_eq_self

theorem encodeAbs22_fields (w w2 : Word) (h : w.extractLsb' 9 7 = 0b1001010#7) :
    encodeAbs22 (w.extractLsb' 1 3) (fieldK22 w w2) = [w, w2] := by
  rw [encodeAbs22, fieldK22, extractLsb'_append_eq_right, extractLsb'_append_eq_of_le (by decide),
    extractLsb'_append_eq_left, extractLsb'_append_eq_of_le (by decide), extractLsb'_append_eq_right, ← h]
  simp (disch := rfl) only [extractLsb'_join]
  exact congrArg (fun v => [v, w2]) extractLsb'_eq_self

theorem encodeIOB_fields (w : Word) : encodeIOB (w.extractLsb' 8 8) (fieldA5 w) (fieldB w) = w := by
  rw [encodeIOB, fieldA5, fieldB]
  simp (disch := rfl) only [extractLsb'_join]
  exact extractLsb'_eq_self

theorem encodeIO_fields (w : Word) : encodeIO (w.extractLsb' 11 5) (fieldA6 w) (fieldD5 w) = w := by
  rw [encodeIO, fieldA6, fieldD5, extractLsb'_append_eq_left, extractLsb'_append_eq_right]
  simp (disch := rfl) only [extractLsb'_join]
  exact extractLsb'_eq_self

theorem encodeLDD_fields (w : Word) (h14 : w.extractLsb' 14 2 = 2#2) (h12 : w.extractLsb' 12 1 = 0#1) :
    encodeLDD (w.extractLsb' 9 1) (fieldD5 w) (w.extractLsb' 3 1) (fieldQ w) = w := by
  rw [encodeLDD, fieldD5, fieldQ, extractLsb'_append_eq_right, extractLsb'_append_eq_of_le (start := 5) (by decide),
    extractLsb'_append_eq_left, extractLsb'_append_eq_of_le (by decide), extractLsb'_append_eq_right, ← h14, ← h12]
  simp (disch := rfl) only [extractLsb'_join]
  exact extractLsb'_eq_self

-- The register subsets the fields range over (R22).

theorem isUpper_append : ∀ x : BitVec 4, Reg.isUpper (1#1 ++ x) = true := by decide
theorem isMulsu_append : ∀ x : BitVec 3, Reg.isMulsu (2#2 ++ x) = true := by decide
theorem isEven_append : ∀ x : BitVec 4, Reg.isEven (x ++ 0#1) = true := by decide
theorem isWordPair_append : ∀ x : BitVec 2, Reg.isWordPair (3#2 ++ x ++ 0#1) = true := by decide

-- The rows of the opcode table.

/-- An instruction that the decoder may give: well-formed, and a core instruction of R111. -/
def Instr.Core (i : Instr) : Prop := i.wellFormed = true ∧ i.isAlias = false

/-- Whatever the row builds from words of its pattern is a core instruction that those words encode. -/
def OpcodeRow.Sound (row : OpcodeRow) : Prop :=
  ∀ w w2, w &&& row.mask = row.pattern →
    (row.build w w2).Core ∧ encode (row.build w w2) = if row.twoWords then [w, w2] else [w]

-- One rule for each format. That `build` gives core instructions (`hc`) and that they have the format's encoding with
-- the pattern's fixed bits (`he`) holds by definition for the rows of the table.

section

variable {name : String} {pat : Word}

/-- A row of one word only. -/
theorem sound_fixed {i : Instr} (hc : i.Core := by exact ⟨rfl, rfl⟩) (he : encode i = [pat] := by rfl) :
    OpcodeRow.Sound ⟨name, 0xFFFF#16, pat, false, fun _ _ => i⟩ := by
  intro w w2 (h : w &&& 0xFFFF#16 = pat)
  have hw : w = pat := by rwa [show (0xFFFF#16 : Word) = BitVec.allOnes 16 from rfl, BitVec.and_allOnes] at h
  exact ⟨hc, by simp [he, hw]⟩

/-- A row of format RR. -/
theorem sound_RR {build : Reg → Reg → Instr} (hc : ∀ d r, (build d r).Core := by intros; exact ⟨rfl, rfl⟩)
    (he : ∀ d r, encode (build d r) = [encodeRR (pat.extractLsb' 10 6) d r] := by intros; rfl) :
    OpcodeRow.Sound ⟨name, 0xFC00#16, pat, false, fun w _ => build (fieldD5 w) (fieldR5 w)⟩ := by
  intro w w2 (h : w &&& 0xFC00#16 = pat)
  refine ⟨hc _ _, (he _ _).trans ?_⟩
  rw [← extractLsb'_of_matches h 10 6, encodeRR_fields]
  rfl

/-- A row of format RI. -/
theorem sound_RI {build : Reg → Byte → Instr}
    (hc : ∀ d k, d.isUpper = true → (build d k).Core := by exact fun _ _ hd => ⟨hd, rfl⟩)
    (he : ∀ d k, encode (build d k) = [encodeRI (pat.extractLsb' 12 4) d k] := by intros; rfl) :
    OpcodeRow.Sound ⟨name, 0xF000#16, pat, false, fun w _ => build (fieldDUpper w) (fieldK8 w)⟩ := by
  intro w w2 (h : w &&& 0xF000#16 = pat)
  refine ⟨hc _ _ (isUpper_append _), (he _ _).trans ?_⟩
  rw [← extractLsb'_of_matches h 12 4, encodeRI_fields]
  rfl

/-- A row of format R1. -/
theorem sound_R1 {build : Reg → Instr} (hc : ∀ d, (build d).Core := by intros; exact ⟨rfl, rfl⟩)
    (he : ∀ d, encode (build d) = [encodeR1 (pat.extractLsb' 9 7) d (pat.extractLsb' 0 4)] := by intros; rfl) :
    OpcodeRow.Sound ⟨name, 0xFE0F#16, pat, false, fun w _ => build (fieldD5 w)⟩ := by
  intro w w2 (h : w &&& 0xFE0F#16 = pat)
  refine ⟨hc _, (he _).trans ?_⟩
  rw [← extractLsb'_of_matches h 9 7, ← extractLsb'_of_matches h 0 4, encodeR1_fields]
  rfl

/-- A row of format LS: the second word is the data address. -/
theorem sound_LS {build : Reg → Word → Instr} (hc : ∀ d k, (build d k).Core := by intros; exact ⟨rfl, rfl⟩)
    (he : ∀ d k, encode (build d k) = [encodeR1 (pat.extractLsb' 9 7) d (pat.extractLsb' 0 4), k] := by intros; rfl) :
    OpcodeRow.Sound ⟨name, 0xFE0F#16, pat, true, fun w w2 => build (fieldD5 w) w2⟩ := by
  intro w w2 (h : w &&& 0xFE0F#16 = pat)
  refine ⟨hc _ _, (he _ _).trans ?_⟩
  rw [← extractLsb'_of_matches h 9 7, ← extractLsb'_of_matches h 0 4, encodeR1_fields]
  rfl

/-- A row of format RR3. -/
theorem sound_RR3 {build : Reg → Reg → Instr} (hp : pat.extractLsb' 8 8 = 0x03#8 := by rfl)
    (hc : ∀ d r, d.isMulsu = true → r.isMulsu = true → (build d r).Core :=
      by exact fun _ _ hd hr => ⟨Bool.and_eq_true_iff.2 ⟨hd, hr⟩, rfl⟩)
    (he : ∀ d r, encode (build d r) = [encodeRR3 (pat.extractLsb' 7 1) d (pat.extractLsb' 3 1) r] := by intros; rfl) :
    OpcodeRow.Sound ⟨name, 0xFF88#16, pat, false, fun w _ => build (fieldDMulsu w) (fieldRMulsu w)⟩ := by
  intro w w2 (h : w &&& 0xFF88#16 = pat)
  refine ⟨hc _ _ (isMulsu_append _) (isMulsu_append _), (he _ _).trans ?_⟩
  rw [← extractLsb'_of_matches h 7 1, ← extractLsb'_of_matches h 3 1,
    encodeRR3_fields w ((extractLsb'_of_matches h 8 8).trans hp)]
  rfl

/-- A row of format WI. -/
theorem sound_WI {build : Reg → BitVec 6 → Instr}
    (hc : ∀ d k, d.isWordPair = true → (build d k).Core := by exact fun _ _ hd => ⟨hd, rfl⟩)
    (he : ∀ d k, encode (build d k) = [encodeWI (pat.extractLsb' 8 8) d k] := by intros; rfl) :
    OpcodeRow.Sound ⟨name, 0xFF00#16, pat, false, fun w _ => build (fieldDPair w) (fieldK6 w)⟩ := by
  intro w w2 (h : w &&& 0xFF00#16 = pat)
  refine ⟨hc _ _ (isWordPair_append _), (he _ _).trans ?_⟩
  rw [← extractLsb'_of_matches h 8 8, encodeWI_fields]
  rfl

/-- A row of format SREG. -/
theorem sound_Sreg {build : BitVec 3 → Instr} (hhi : pat.extractLsb' 8 8 = 0x94#8 := by rfl)
    (hlo : pat.extractLsb' 0 4 = 8#4 := by rfl)
    (hc : ∀ b, (build b).Core := by intros; exact ⟨rfl, rfl⟩)
    (he : ∀ b, encode (build b) = [encodeSreg (pat.extractLsb' 7 1) b] := by intros; rfl) :
    OpcodeRow.Sound ⟨name, 0xFF8F#16, pat, false, fun w _ => build (fieldS w)⟩ := by
  intro w w2 (h : w &&& 0xFF8F#16 = pat)
  refine ⟨hc _, (he _).trans ?_⟩
  rw [← extractLsb'_of_matches h 7 1, encodeSreg_fields w ((extractLsb'_of_matches h 8 8).trans hhi)
    ((extractLsb'_of_matches h 0 4).trans hlo)]
  rfl

/-- A row of format RB. -/
theorem sound_RB {build : Reg → BitVec 3 → Instr} (hp : pat.extractLsb' 3 1 = 0#1 := by rfl)
    (hc : ∀ d b, (build d b).Core := by intros; exact ⟨rfl, rfl⟩)
    (he : ∀ d b, encode (build d b) = [encodeRB (pat.extractLsb' 9 7) d b] := by intros; rfl) :
    OpcodeRow.Sound ⟨name, 0xFE08#16, pat, false, fun w _ => build (fieldD5 w) (fieldB w)⟩ := by
  intro w w2 (h : w &&& 0xFE08#16 = pat)
  refine ⟨hc _ _, (he _ _).trans ?_⟩
  rw [← extractLsb'_of_matches h 9 7, encodeRB_fields w ((extractLsb'_of_matches h 3 1).trans hp)]
  rfl

/-- A row of format BR. -/
theorem sound_BR {build : BitVec 3 → BitVec 7 → Instr}
    (hc : ∀ b k, (build b k).Core := by intros; exact ⟨rfl, rfl⟩)
    (he : ∀ b k, encode (build b k) = [encodeBR (pat.extractLsb' 10 6) b k] := by intros; rfl) :
    OpcodeRow.Sound ⟨name, 0xFC00#16, pat, false, fun w _ => build (fieldB w) (fieldK7 w)⟩ := by
  intro w w2 (h : w &&& 0xFC00#16 = pat)
  refine ⟨hc _ _, (he _ _).trans ?_⟩
  rw [← extractLsb'_of_matches h 10 6, encodeBR_fields]
  rfl

/-- A row of format REL12. -/
theorem sound_Rel12 {build : BitVec 12 → Instr} (hc : ∀ k, (build k).Core := by intros; exact ⟨rfl, rfl⟩)
    (he : ∀ k, encode (build k) = [encodeRel12 (pat.extractLsb' 12 4) k] := by intros; rfl) :
    OpcodeRow.Sound ⟨name, 0xF000#16, pat, false, fun w _ => build (fieldK12 w)⟩ := by
  intro w w2 (h : w &&& 0xF000#16 = pat)
  refine ⟨hc _, (he _).trans ?_⟩
  rw [← extractLsb'_of_matches h 12 4, encodeRel12_fields]
  rfl

/-- A row of format ABS22. -/
theorem sound_Abs22 {build : BitVec 22 → Instr} (hp : pat.extractLsb' 9 7 = 0b1001010#7 := by rfl)
    (hc : ∀ k, (build k).Core := by intros; exact ⟨rfl, rfl⟩)
    (he : ∀ k, encode (build k) = encodeAbs22 (pat.extractLsb' 1 3) k := by intros; rfl) :
    OpcodeRow.Sound ⟨name, 0xFE0E#16, pat, true, fun w w2 => build (fieldK22 w w2)⟩ := by
  intro w w2 (h : w &&& 0xFE0E#16 = pat)
  refine ⟨hc _, (he _).trans ?_⟩
  rw [← extractLsb'_of_matches h 1 3, encodeAbs22_fields w w2 ((extractLsb'_of_matches h 9 7).trans hp)]
  rfl

/-- A row of format IOB. -/
theorem sound_IOB {build : BitVec 5 → BitVec 3 → Instr}
    (hc : ∀ a b, (build a b).Core := by intros; exact ⟨rfl, rfl⟩)
    (he : ∀ a b, encode (build a b) = [encodeIOB (pat.extractLsb' 8 8) a b] := by intros; rfl) :
    OpcodeRow.Sound ⟨name, 0xFF00#16, pat, false, fun w _ => build (fieldA5 w) (fieldB w)⟩ := by
  intro w w2 (h : w &&& 0xFF00#16 = pat)
  refine ⟨hc _ _, (he _ _).trans ?_⟩
  rw [← extractLsb'_of_matches h 8 8, encodeIOB_fields]
  rfl

/-- A row of format IO. -/
theorem sound_IO {build : BitVec 6 → Reg → Instr} (hc : ∀ a d, (build a d).Core := by intros; exact ⟨rfl, rfl⟩)
    (he : ∀ a d, encode (build a d) = [encodeIO (pat.extractLsb' 11 5) a d] := by intros; rfl) :
    OpcodeRow.Sound ⟨name, 0xF800#16, pat, false, fun w _ => build (fieldA6 w) (fieldD5 w)⟩ := by
  intro w w2 (h : w &&& 0xF800#16 = pat)
  refine ⟨hc _ _, (he _ _).trans ?_⟩
  rw [← extractLsb'_of_matches h 11 5, encodeIO_fields]
  rfl

/-- A row of format LDD. -/
theorem sound_LDD {build : Reg → BitVec 6 → Instr} (h14 : pat.extractLsb' 14 2 = 2#2 := by rfl)
    (h12 : pat.extractLsb' 12 1 = 0#1 := by rfl) (hc : ∀ d q, (build d q).Core := by intros; exact ⟨rfl, rfl⟩)
    (he : ∀ d q, encode (build d q) = [encodeLDD (pat.extractLsb' 9 1) d (pat.extractLsb' 3 1) q] := by intros; rfl) :
    OpcodeRow.Sound ⟨name, 0xD208#16, pat, false, fun w _ => build (fieldD5 w) (fieldQ w)⟩ := by
  intro w w2 (h : w &&& 0xD208#16 = pat)
  refine ⟨hc _ _, (he _ _).trans ?_⟩
  rw [← extractLsb'_of_matches h 9 1, ← extractLsb'_of_matches h 3 1,
    encodeLDD_fields w ((extractLsb'_of_matches h 14 2).trans h14) ((extractLsb'_of_matches h 12 1).trans h12)]
  rfl

end

/-- The row of MOVW. -/
theorem sound_movw {name : String} :
    OpcodeRow.Sound ⟨name, 0xFF00#16, 0x0100#16, false, fun w _ => .movw (fieldDEven w) (fieldREven w)⟩ := by
  intro w w2 (h : w &&& 0xFF00#16 = 0x0100#16)
  refine ⟨⟨Bool.and_eq_true_iff.2 ⟨isEven_append _, isEven_append _⟩, rfl⟩, ?_⟩
  exact congrArg (fun v => [v]) (encodeMovw_fields w (extractLsb'_of_matches h 8 8))

/-- The row of MULS. -/
theorem sound_muls {name : String} :
    OpcodeRow.Sound ⟨name, 0xFF00#16, 0x0200#16, false, fun w _ => .muls (fieldDUpper w) (fieldRUpper w)⟩ := by
  intro w w2 (h : w &&& 0xFF00#16 = 0x0200#16)
  refine ⟨⟨Bool.and_eq_true_iff.2 ⟨isUpper_append _, isUpper_append _⟩, rfl⟩, ?_⟩
  exact congrArg (fun v => [v]) (encodeMuls_fields w (extractLsb'_of_matches h 8 8))

/-- Every row of the opcode table is sound: the formats of the rows, in the table's order. -/
theorem opcodeTable_sound : ∀ row ∈ opcodeTable, row.Sound := by
  simp only [opcodeTable, List.forall_mem_cons]
  exact ⟨
    sound_fixed, sound_movw, sound_muls, sound_RR3, sound_RR3, sound_RR3, sound_RR3, sound_RR, sound_RR, sound_RR,
    sound_RR, sound_RR, sound_RR, sound_RR, sound_RR, sound_RR, sound_RR, sound_RR, sound_RI, sound_RI, sound_RI,
    sound_RI, sound_RI, sound_LDD, sound_LDD, sound_LDD (build := fun r q => .stdZ q r),
    sound_LDD (build := fun r q => .stdY q r), sound_LS, sound_R1, sound_R1, sound_R1, sound_R1, sound_R1, sound_R1,
    sound_R1, sound_R1, sound_R1, sound_R1, sound_R1, sound_R1, sound_LS (build := fun r k => .sts k r), sound_R1,
    sound_R1, sound_R1, sound_R1, sound_R1, sound_R1, sound_R1, sound_R1, sound_R1, sound_R1, sound_R1, sound_R1,
    sound_R1, sound_R1, sound_R1, sound_Sreg, sound_fixed, sound_R1, sound_Abs22, sound_Abs22, sound_fixed,
    sound_Sreg, sound_fixed, sound_fixed, sound_fixed, sound_fixed, sound_fixed, sound_fixed, sound_fixed,
    sound_fixed, sound_fixed, sound_fixed, sound_WI, sound_WI, sound_IOB, sound_IOB, sound_IOB, sound_IOB, sound_RR,
    sound_IO (build := fun a d => .in_ d a), sound_IO, sound_Rel12, sound_Rel12, sound_RI, sound_BR, sound_BR,
    sound_RB, sound_RB, sound_RB, sound_RB, fun _ h => nomatch h⟩

/-- The row of a word has the word's pattern and is sound. -/
theorem rowOf_some {w : Word} {row : OpcodeRow} (h : rowOf w = some row) :
    w &&& row.mask = row.pattern ∧ row.Sound :=
  ⟨by simpa using List.find?_some h, opcodeTable_sound row (List.mem_of_find?_eq_some h)⟩

/-- Two bytes are those of the word they make up, low byte first (R66). -/
theorem bytesOfWords_append_cons (lo hi : Byte) (ws : List Word) :
    bytesOfWords ((hi ++ lo) :: ws) = lo :: hi :: bytesOfWords ws := by
  simp [bytesOfWords, Machine.lowByte_append, Machine.highByte_append]

/-- What the decoder accepts: a row's first word, and a second one where the row has two. -/
theorem decodeBytes_ok {bs rest : List Byte} {i : Instr} (h : decodeBytes bs = .ok (i, rest)) :
    ∃ (lo hi : Byte) (row : OpcodeRow) (w2 : Word), rowOf (hi ++ lo) = some row ∧ i = row.build (hi ++ lo) w2 ∧
      bs = bytesOfWords (if row.twoWords then [hi ++ lo, w2] else [hi ++ lo]) ++ rest := by
  unfold decodeBytes at h
  split at h
  · rename_i lo hi rest'
    split at h
    · cases h
    · rename_i row hrow
      cases htwo : row.twoWords with
      | false =>
        simp only [htwo] at h
        cases h
        exact ⟨lo, hi, row, 0#16, hrow, rfl, by simp [htwo, bytesOfWords_append_cons, bytesOfWords]⟩
      | true =>
        simp only [htwo, if_true] at h
        split at h
        · rename_i lo2 hi2 rest''
          cases h
          exact ⟨lo, hi, row, hi2 ++ lo2, hrow, rfl, by simp [htwo, bytesOfWords_append_cons, bytesOfWords]⟩
        · cases h
  · cases h

end Sys2Proof

namespace Sys2Proof.Machine

/-- Settles O2: the row of the first word is sound, so what it builds is a core instruction of just those words. -/
theorem decodedInstructionEncodesToItsBytes : Obligations.DecodedInstructionEncodesToItsBytes := by
  intro bs rest i h
  obtain ⟨lo, hi, row, w2, hrow, rfl, hbs⟩ := decodeBytes_ok h
  obtain ⟨hpattern, hsound⟩ := rowOf_some hrow
  obtain ⟨⟨hwf, hcore⟩, hencode⟩ := hsound _ w2 hpattern
  exact ⟨hwf, hcore, hencode ▸ hbs⟩

end Sys2Proof.Machine
end

section
/-! SUPPORT. The boundary: the requests that arrive (O12), the fetch and the running of the fetched instruction (O8, O9),
and the state after reset (O16, O17). -/

namespace Sys2Proof.Machine

-- Frames of states that agree on registers or on SREG.

/-- States with the same registers. -/
theorem keepsRegs_of {s t : State} (h : t.regs = s.regs) : KeepsRegs [] s t := fun k _ => State.reg_congr h k

/-- States with the same SREG. -/
theorem keepsFlags_of {s t : State} (h : t.sreg = s.sreg) : KeepsFlags [] s t := fun b _ => by rw [h]

-- The requests that arrive (R403).

/-- A source of the table requests after the arrival where it did and is not withdrawn, or is newly raised. -/
theorem State.mem_receiveRequests_pending {s : State} {n : Nat} {src : IrqSource} (h : s.part.irqs[n]? = some src) :
    n ∈ s.receiveRequests.irqPending ↔
      if n ∈ s.irqPending then ¬(src.deviceWithdraws = true ∧ Config.irqWithdrawn s.draws n = true)
      else Config.irqRaised s.draws n = true := by
  obtain ⟨hn, -⟩ := List.getElem?_eq_some_iff.1 h
  have hne : s.part.irqs.isEmpty = false := by
    cases hl : s.part.irqs with
    | nil => simp [hl] at hn
    | cons _ _ => rfl
  simp only [State.receiveRequests, hne, Bool.false_eq_true, if_false, List.mem_filter, List.mem_range, hn, true_and]
  split
  · simp [h, imp_iff_not_or]
  · rfl

/-- Only sources of the table request after the arrival, on a part that has a source. -/
theorem State.receiveRequests_pending_lt {s : State} (h : s.part.irqs ≠ []) :
    ∀ n ∈ s.receiveRequests.irqPending, n < s.part.irqs.length := by
  intro n hn
  simp only [State.receiveRequests, List.isEmpty_iff, h, if_false] at hn
  exact List.mem_range.1 (List.mem_filter.1 hn).1

/-- Settles O12: the pending requests by `mem_receiveRequests_pending`, every other field as it was. -/
theorem pendingRequestsStay : Obligations.PendingRequestsStay := by
  intro s
  refine ⟨fun n src hsrc hn => ?_, fun n src hsrc hn => ?_, State.receiveRequests_pending_lt, keepsRegs_of (by simp),
    keepsFlags_of (by simp), keepsMemory_of (by simp) (by simp) (by simp) (by simp), by simp [KeepsControl], by simp,
    by simp, by simp, by simp, by simp, by simp, by simp, by simp⟩
  · rw [State.mem_receiveRequests_pending hsrc, if_pos hn]
  · rw [State.mem_receiveRequests_pending hsrc, if_neg hn]

-- The fetch (R64, R110, R113).

/-- The arrival of requests leaves the fetch alone. -/
theorem State.fetch_receiveRequests (s : State) : s.receiveRequests.fetch = s.fetch := by
  have hword : ∀ w, s.receiveRequests.progWord w = s.progWord w := State.progWord_congr (by simp) (by simp)
  simp [State.fetch, State.fetchWord, State.secondWord, State.nextWord, State.wantsSecondWord, State.pcPlus, hword]

/-- The fetch where the image has the words that are wanted, and they decode. -/
theorem State.fetch_of_decode {s : State} {w w2 : Word} {i : Instr} (h1 : s.progWord s.pc.toNat = some w)
    (h2 : s.secondWord w = .ok w2) (h : decodeWords [w, w2] = .ok i) : s.fetch = .ok i := by
  simp only [State.fetch, State.fetchWord, h1, Except.bind, h2, h]

/-- The fetch where the image has the words that are wanted, and they are no instruction. -/
theorem State.fetch_of_decode_error {s : State} {w w2 : Word} {e : DecodeError}
    (h1 : s.progWord s.pc.toNat = some w) (h2 : s.secondWord w = .ok w2) (h : decodeWords [w, w2] = .error e) :
    s.fetch = .error (.unassignedOpcode s.pc w) := by
  simp only [State.fetch, State.fetchWord, h1, Except.bind, h2, h]

/-- The second word where the image has it, or where none is wanted. -/
theorem State.secondWord_eq {s : State} {w w2 : Word}
    (h : if s.wantsSecondWord w then s.progWord (s.pc.toNat + 1) = some w2 else w2 = 0) :
    s.secondWord w = .ok w2 := by
  unfold State.secondWord
  split at h
  · simp [State.nextWord, *]
  · simp [*]

/-- A word of no row has none of the patterns of two words. -/
theorem instrLen_ne_two_of_rowOf_none {w : Word} (hnone : rowOf w = none) : instrLen w ≠ 2 := by
  have hrows : ∀ c ∈ [(0xFE0F#16, 0x9000#16), (0xFE0F#16, 0x9200#16), (0xFE0E#16, 0x940C#16),
      (0xFE0E#16, 0x940E#16)], ∃ row ∈ opcodeTable, row.mask = c.1 ∧ row.pattern = c.2 := by
    simp [opcodeTable]
  have hmatch : ∀ m p, (∃ row ∈ opcodeTable, row.mask = m ∧ row.pattern = p) → w &&& m ≠ p := by
    rintro m p ⟨row, hrow, rfl, rfl⟩
    simpa using List.find?_eq_none.1 hnone row hrow
  unfold instrLen
  split
  · rename_i hw
    rcases hw with hw | hw | hw | hw <;> exact absurd hw (hmatch _ _ (hrows (_, _) (by simp)))
  · decide

/-- A word of no row begins no instruction, whatever follows. -/
theorem decodeWords_of_rowOf_none {w w2 : Word} (h : rowOf w = none) : decodeWords [w, w2] = .error (.unassigned w) := by
  simp [decodeWords, bytesOfWords, decodeBytes, highByte_append_lowByte, h, Except.map]

-- One step that runs an instruction.

/-- A step of a core that is awake, with no expired watchdog and no accepted interrupt, runs an instruction. -/
theorem step_eq_runInstruction {s : State} (hstop : s.stopped = false) (hdog : s.watchdogExpired = false)
    (haccept : s.receiveRequests.accepted = none) (hsleep : s.sleeping = false) :
    step s = s.receiveRequests.runInstruction exec := by
  simp [step, State.boundary, State.proceed, State.watchdogPassed, hstop, hdog, haccept, hsleep]

/-- Settles O8: the step is `runInstruction`, whose fetch is the given instruction. -/
theorem stepRunsTheDecodedInstruction : Obligations.StepRunsTheDecodedInstruction := by
  intro s w w2 i hstop hdog haccept hsleep hw hw2 hdecode u
  have hu : s.receiveRequests.startDelay = u := by simp [State.startDelay, u]
  have hfetch : s.receiveRequests.fetch = .ok i :=
    s.fetch_receiveRequests.trans (State.fetch_of_decode hw (State.secondWord_eq hw2) hdecode)
  rw [step_eq_runInstruction hstop hdog haccept hsleep, State.runInstruction, hfetch, hu]
  clear_value u
  refine ⟨fun t ht => ?_, fun f hf => by simp [hf], fun q hq => by simp [hq]⟩
  simp only [ht, Host.Outcome.next.injEq]
  cases hd : t.part.watchdog <;> by_cases hi : i = .wdr <;>
    simp [State.charge, State.complete, countedCycles, hd, hi]

/-- Settles O9: the fetch faults at the first word that is missing, and at a word of no row. -/
theorem badFetchFaults : Obligations.BadFetchFaults := by
  intro s hstop hdog haccept hsleep
  have hstep : ∀ f, s.fetch = .error f → step s = .fault f := by
    intro f hf
    rw [step_eq_runInstruction hstop hdog haccept hsleep, State.runInstruction, State.fetch_receiveRequests, hf]
  refine ⟨fun hw => hstep _ ?_, fun w hw hrow => hstep _ ?_, fun w hw hwants hw2 => hstep _ ?_⟩
  · simp [State.fetch, State.fetchWord, hw, Except.bind]
  · have hone : s.wantsSecondWord w = false := by
      simp [State.wantsSecondWord, instrLen_ne_two_of_rowOf_none hrow]
    exact State.fetch_of_decode_error (w2 := 0) hw (State.secondWord_eq (by simp [hone]))
      (decodeWords_of_rowOf_none hrow)
  · simp [State.fetch, State.fetchWord, State.secondWord, State.nextWord, State.pcPlus, hw, hwants, hw2, Except.bind]

-- Reset.

/-- The reference part is well-formed (R4, R62). -/
theorem partWf_reference : partWf Part.reference := by
  unfold partWf
  decide

/-- Settles O16: the reset state of a well-formed part is sound, and has no delay. -/
theorem resetStateSatisfiesTheInvariant : Obligations.ResetStateSatisfiesTheInvariant :=
  { sound_resetOf partWf_reference rfl with delay := by decide }

/-- Settles O17, field by field. -/
theorem resetValuesOfTheSpec : Obligations.ResetValuesOfTheSpec := by
  intro p image
  exact ⟨rfl, rfl, rfl, rfl, rfl, rfl, rfl, rfl, rfl, rfl, rfl⟩

end Sys2Proof.Machine
end

section
/-! SUPPORT. An instruction that transfers no control ends behind itself (O19): every operation but the last advance
leaves pc and the part as they were. -/

namespace Sys2Proof.Machine

/-- A next state of the outcome is n words further on than s (R25). -/
def AdvancesBy (n : PcWord) (s : State) (o : Host.Outcome State Fault Refusal) : Prop :=
  ∀ t, o = .next t → Advances n s t

section

variable {n : PcWord} {s t u : State} {k : Host.Outcome State Fault Refusal}

/-- The advance from a state with the same part and pc. -/
theorem Advances.of_eq (hp : u.part = s.part) (hc : u.pc = s.pc) : Advances n s (u.advance n) := by
  simp [Advances, hp, hc]

/-- A next state that is n words further on. -/
theorem AdvancesBy.next (h : Advances n s t) : AdvancesBy n s (.next t) := by
  intro u e; cases e; exact h

/-- A fault has no next state. -/
theorem AdvancesBy.fault (f : Fault) : AdvancesBy n s (.fault f) := by
  intro u e; cases e

/-- An effect that may fault, whose results are n words further on. -/
theorem AdvancesBy.orFault {r : Except Fault State} (h : ∀ {t}, r = .ok t → Advances n s t) :
    AdvancesBy n s (orFault r) :=
  fun _ e => h (orFault_next.1 e)

/-- An effect that may fault and leaves part and pc, then what ends with the advance. -/
theorem AdvancesBy.bind {α : Type} {x : Except Fault α} {f : α → State}
    (h : ∀ {a}, x = .ok a → Advances n s (f a)) : AdvancesBy n s (Machine.orFault (x.bind fun a => .ok (f a))) := by
  refine .orFault fun e => ?_
  obtain ⟨a, hx, e⟩ := bind_ok e
  cases e
  exact h hx

/-- The check for an optional group. -/
theorem AdvancesBy.ifPresent {b i} (h : AdvancesBy n s k) : AdvancesBy n s (ifPresent b i s k) :=
  fun t e => h t (ifPresent_next e).2

/-- The check of the data register against the pointer. -/
theorem AdvancesBy.unlessInPointer {r d i} (h : AdvancesBy n s k) : AdvancesBy n s (unlessInPointer r d i s k) :=
  fun t e => h t (unlessInPointer_next e).2

/-- A load ends behind itself. -/
theorem advancesBy_load {d a} : AdvancesBy n s (orFault (s.load d a n)) :=
  .bind fun e => .of_eq (State.memRead_frame e).1 (State.memRead_frame e).2.1

/-- A post-increment load ends behind itself. -/
theorem advancesBy_loadInc {d p} : AdvancesBy 1 s (orFault (s.loadInc d p)) :=
  .bind fun e => .of_eq (State.memRead_frame e).1 (State.memRead_frame e).2.1

/-- A pre-decrement load ends behind itself. -/
theorem advancesBy_loadDec {d p} : AdvancesBy 1 s (orFault (s.loadDec d p)) :=
  .bind fun e => .of_eq (State.memRead_frame e).1 (State.memRead_frame e).2.1

/-- A store ends behind itself. -/
theorem advancesBy_store {r a} : AdvancesBy n s (orFault (s.store a r n)) :=
  .bind fun e => .of_eq (State.memWrite_frame e).1 (State.memWrite_frame e).2.1

/-- A post-increment store ends behind itself. -/
theorem advancesBy_storeInc {r p} : AdvancesBy 1 s (orFault (s.storeInc p r)) :=
  .bind fun e => .of_eq (State.memWrite_frame e).1 (State.memWrite_frame e).2.1

/-- A pre-decrement store ends behind itself. -/
theorem advancesBy_storeDec {r p} : AdvancesBy 1 s (orFault (s.storeDec p r)) :=
  .bind fun e => .of_eq (State.memWrite_frame e).1 (State.memWrite_frame e).2.1

/-- A read-modify-write of an SFR ends behind itself. -/
theorem advancesBy_modifySfr {a b v} : AdvancesBy 1 s (orFault (s.modifySfr a b v)) := by
  refine .orFault fun e => ?_
  obtain ⟨x, u, w, hr, hw, rfl⟩ := State.modifySfr_ok e
  obtain ⟨hpart, hpc, -⟩ := State.ioRead_frame hr
  obtain ⟨hpart', hpc', -⟩ := State.ioWrite_frame hw
  exact .of_eq (hpart'.trans hpart) (hpc'.trans hpc)

end

/-- Settles O19. The instructions are grouped by the shared operation that is their meaning. -/
theorem straightInstructionsAdvanceByTheirLength : Obligations.StraightInstructionsAdvanceByTheirLength := by
  intro i n s t hn
  revert t
  change AdvancesBy n s (exec i s)
  cases i with
  -- no straight instruction
  | brbs | brbc | brcc | brcs | brsh | brlo | brne | breq | brpl | brmi | brvc | brvs | brge | brlt | brhc | brhs | brtc
  | brts | brid | brie | bric | rjmp | jmp | ijmp | eijmp | rcall | call | icall | eicall | ret | reti | cpse | sbrc
  | sbrs | sbic | sbis | break_ => cases hn
  -- registers and SREG
  | cpc | cp | cpi | bst | sbc | add | sub | adc | and_ | eor | or_ | sbci | subi | ori | andi | com | neg | inc | asr
  | lsr | ror | dec | clr | tst | lsl | rol | cbr | sbr | adiw | sbiw | mov | ldi | swap | bld | ser | bclr | clc | clz
  | cln | clv | cls | clh | clt | cli | bset | sec | sez | sen | sev | ses | seh | set_ | sei | nop | sleep | wdr =>
    cases hn
    exact .next rfl
  | mul | muls | mulsu | fmul | fmuls | fmulsu | movw =>
    cases hn
    exact .ifPresent (.next rfl)
  -- the data space
  | lds | ldX | ldY | ldZ | lddY | lddZ =>
    cases hn
    exact advancesBy_load
  | ldXInc | ldYInc | ldZInc =>
    cases hn
    exact .unlessInPointer advancesBy_loadInc
  | ldXDec | ldYDec | ldZDec =>
    cases hn
    exact .unlessInPointer advancesBy_loadDec
  | sts | stX | stY | stZ | stdY | stdZ =>
    cases hn
    exact advancesBy_store
  | stXInc | stYInc | stZInc =>
    cases hn
    exact .unlessInPointer advancesBy_storeInc
  | stXDec | stYDec | stZDec =>
    cases hn
    exact .unlessInPointer advancesBy_storeDec
  | push =>
    cases hn
    exact .ifPresent (.bind fun e => .of_eq (State.push8_frame e).1 (State.push8_frame e).2.1)
  | pop =>
    cases hn
    exact .ifPresent (.bind fun e => .of_eq (State.pop8_frame e).1 (State.pop8_frame e).2.1)
  | in_ =>
    cases hn
    exact .bind fun e => .of_eq (State.ioRead_frame e).1 (State.ioRead_frame e).2.1
  | out =>
    cases hn
    exact .bind fun e => .of_eq (State.ioWrite_frame e).1 (State.ioWrite_frame e).2.1
  | sbi | cbi =>
    cases hn
    exact advancesBy_modifySfr
  -- the program memory
  | lpm =>
    cases hn
    exact .bind fun _ => .of_eq rfl rfl
  | lpmRd | elpm | elpmRd =>
    cases hn
    exact .ifPresent (.bind fun _ => .of_eq rfl rfl)
  | lpmRdInc | elpmRdInc =>
    cases hn
    exact .ifPresent (.unlessInPointer (.bind fun _ => .of_eq rfl rfl))
  | spm =>
    cases hn
    exact .ifPresent (.fault _)

end Sys2Proof.Machine
end

section
/-! SUPPORT. Loads from the program memory at RAMPZ:Z (O54). -/

namespace Sys2Proof.Machine

/-- An instruction of a group that the part has. -/
theorem ifPresent_of {b : Bool} {i : Instr} {s : State} {k : Host.Outcome State Fault Refusal} (h : b = true) :
    ifPresent b i s k = k := if_pos h

/-- A pointer-updating form whose data register is outside the pointer. -/
theorem unlessInPointer_of {p d : Reg} {i : Instr} {s : State} {k : Host.Outcome State Fault Refusal}
    (h : d ≠ p ∧ d ≠ p + 1) : unlessInPointer p d i s k = k := by
  have hfree : inPair p d = false := by simpa [inPair] using h
  rw [unlessInPointer, hfree]
  rfl

/-- A byte of a program word that the image defines, the low one at the even address (R66). -/
theorem State.progByte_eq {s : State} {b : Nat} {w : Word} (h : s.progWord (b / 2) = some w) :
    s.progByte b = .ok (if b % 2 = 0 then lowByte w else highByte w) := by
  simp [State.progByte, h]

/-- The number that two bit strings side by side make. -/
theorem toNat_append_eq {m n : Nat} (x : BitVec m) (y : BitVec n) : (x ++ y).toNat = x.toNat * 2 ^ n + y.toNat := by
  rw [BitVec.toNat_append, ← Nat.shiftLeft_add_eq_or_of_lt y.isLt, Nat.shiftLeft_eq]

/-- RAMPZ:Z as a number (R30). -/
theorem State.extAddr_toNat (s : State) : s.extAddr.toNat = s.rampz.toNat * 65536 + (s.pair 30).toNat :=
  toNat_append_eq _ _

/-- The byte address of ELPM, modulo the bytes that a program memory of `PC_BITS` can have (R317, D28). -/
theorem State.elpmAddr_eq (s : State) :
    s.elpmAddr = (s.rampz.toNat * 65536 + (s.pair 30).toNat) % (2 * pcSpan s.part) := by
  unfold State.elpmAddr pcSpan
  rw [State.extAddr_toNat]
  cases s.part.pcWidth <;> rfl

/-- The Z half of RAMPZ:Z after it is increased. -/
theorem State.extAddr_succ_low (s : State) : (s.extAddr + 1).extractLsb' 0 16 = s.pair 30 + 1 := by
  apply BitVec.eq_of_toNat_eq
  have hz := (s.pair 30).isLt
  simp only [BitVec.extractLsb'_toNat, BitVec.toNat_add, State.extAddr_toNat, Nat.shiftRight_zero]
  have h24 : (1 : BitVec 24).toNat = 1 := rfl
  have h16 : (1 : Word).toNat = 1 := rfl
  omega

/-- The RAMPZ half of RAMPZ:Z after it is increased: it goes up where Z was $FFFF (R319). -/
theorem State.extAddr_succ_high (s : State) :
    (s.extAddr + 1).extractLsb' 16 8 = if (s.pair 30).toNat = 65535 then s.rampz + 1 else s.rampz := by
  apply BitVec.eq_of_toNat_eq
  have hz := (s.pair 30).isLt
  have hr := s.rampz.isLt
  simp only [BitVec.extractLsb'_toNat, BitVec.toNat_add, State.extAddr_toNat, Nat.shiftRight_eq_div_pow]
  have h24 : (1 : BitVec 24).toNat = 1 := rfl
  have h8 : (1 : Byte).toNat = 1 := rfl
  split
  · rw [BitVec.toNat_add]; omega
  · omega

/-- The low byte of a pair is its register, the high byte the next one (R21). -/
theorem State.lowByte_pair (s : State) (p : Reg) : lowByte (s.pair p) = s.reg p := lowByte_append _ _
theorem State.highByte_pair (s : State) (p : Reg) : highByte (s.pair p) = s.reg (p + 1) := highByte_append _ _

/-- A load of one program byte keeps Z and RAMPZ but for the register it writes. -/
theorem loadsProgram_of_loadProg {i : Instr} {d : Reg} {b : Nat} {s : State}
    (h : exec i s = orFault (s.loadProg d b)) : loadsProgram i d b (s.pair 30) s.rampz s := by
  intro w hw
  have hbyte := State.progByte_eq hw
  generalize (if b % 2 = 0 then lowByte w else highByte w) = v at hbyte ⊢
  refine ⟨(s.setReg d v).advance 1, by rw [h, State.loadProg, hbyte]; rfl, by simp, fun hd => ?_, fun hd => ?_,
    rfl, ?_, keepsFlags_of rfl, keepsMemory_of rfl rfl rfl rfl, ⟨rfl, rfl, rfl, rfl, rfl⟩, ⟨rfl, rfl, rfl⟩, rfl, rfl, rfl⟩
  · have hne : ¬30#5 = d := Ne.symm hd
    simp [State.lowByte_pair, hne]
  · have hne : ¬31#5 = d := Ne.symm hd
    simp [State.highByte_pair, hne]
  · intro k hk
    simp only [List.mem_cons, not_or] at hk
    simp [hk]

/-- The load of one program byte that then writes Z and RAMPZ. -/
theorem loadsProgram_of_update {i : Instr} {d : Reg} {b : Nat} {z : Word} {rz : Byte} {s : State} (h30 : d ≠ 30)
    (h31 : d ≠ 31) (h : exec i s = orFault ((s.progByte b).bind fun v =>
      .ok (({ s.setReg d v with rampz := rz }.setPair regZ z).advance 1))) : loadsProgram i d b z rz s := by
  intro w hw
  have hbyte := State.progByte_eq hw
  generalize (if b % 2 = 0 then lowByte w else highByte w) = v at hbyte ⊢
  let u : State := { s.setReg d v with rampz := rz }
  have hu : ∀ k, u.reg k = if k = d then v else s.reg k := fun k => State.reg_setReg s d k v
  have hz : regZ = 30#5 ∧ regZ + 1 = 31#5 := by decide
  have hne : ¬d = 30#5 ∧ ¬d = 31#5 := ⟨h30, h31⟩
  refine ⟨(u.setPair regZ z).advance 1, by rw [h, hbyte]; rfl, by simp [hz, hu, hne], fun _ => by simp [hz],
    fun _ => by simp [hz], rfl, ?_, keepsFlags_of rfl, keepsMemory_of rfl rfl rfl rfl, ⟨rfl, rfl, rfl, rfl, rfl⟩,
    ⟨rfl, rfl, rfl⟩, rfl, rfl, rfl⟩
  intro k hk
  simp only [List.mem_cons, not_or] at hk
  obtain ⟨hd, hk30, hk31, -⟩ := hk
  have hne : ¬k = 30#5 ∧ ¬k = 31#5 := ⟨hk30, hk31⟩
  simp [hz, hu, hne, hd]

/-- Settles O54: the address is `elpmAddr`, and the increased RAMPZ:Z is written in its two halves. -/
theorem elpmReadsTheByteAtRampzZ : Obligations.ElpmReadsTheByteAtRampzZ := by
  intro d s hext a up
  have ha : s.elpmAddr = a := s.elpmAddr_eq
  refine ⟨loadsProgram_of_loadProg ?_, loadsProgram_of_loadProg ?_, fun h30 h31 => loadsProgram_of_update h30 h31 ?_⟩
  · exact ha ▸ ifPresent_of hext
  · exact ha ▸ ifPresent_of hext
  · calc exec (.elpmRdInc d) s
      _ = unlessInPointer regZ d (.elpmRdInc d) s _ := ifPresent_of hext
      _ = _ := unlessInPointer_of ⟨h30, h31⟩
      _ = _ := by rw [ha, State.extAddr_succ_low, State.extAddr_succ_high]

end Sys2Proof.Machine
end

section
/-! SUPPORT. The data space and the stack where an access faults (O52), and where it stores or loads a byte (O55). -/

namespace Sys2Proof.Machine

-- Writes of a byte where it is stored plainly (R62, R72, R73).

/-- What a write of v at data-space address a leaves where it is stored plainly, but for the byte itself. -/
def StoresAt (a : Word) (v : Byte) (s u : State) : Prop :=
  u.sp = s.sp ∧ u.ioLog = s.ioLog ++ (if dataPlace s.part a = .sfr then [.write a.toNat v] else []) ∧
    (∀ k : Reg, k.setWidth 16 ≠ a → u.reg k = s.reg k) ∧ KeepsSram [a] s u ∧ KeepsSfrs [a.toNat] s u ∧
    KeepsProgram s u ∧ KeepsFlags [] s u ∧ KeepsHidden s u ∧ KeepsControl s u ∧ u.irqDelay = s.irqDelay ∧
    u.draws = s.draws

/-- A register number below $20 as an address is that register (R62). -/
theorem setWidth_reg_of_lt {a : Word} (h : a.toNat < 32) : ((a.setWidth 5 : Reg).setWidth 16 : Word) = a := by
  apply BitVec.eq_of_toNat_eq
  simp only [BitVec.toNat_setWidth]
  omega

/-- States with the same SRAM. -/
theorem keepsSram_of {s t : State} (h : t.sram = s.sram) (as : List Word) : KeepsSram as s t :=
  fun a _ => State.sramByte_congr h a

/-- States with the same SFR memory. -/
theorem keepsSfrs_of {s t : State} (h : t.sfr = s.sfr) (as : List Nat) : KeepsSfrs as s t :=
  fun a _ => State.sfrByte_congr h a

/-- A write of a register through the data space. -/
theorem storesAt_register {s : State} {a : Word} {r : Reg} {v : Byte} (h : dataPlace s.part a = .register r) :
    StoresAt a v s (s.setReg r v) := by
  obtain ⟨hlt, rfl⟩ := dataPlace_register h
  refine ⟨rfl, by simp [h], fun k hk => ?_, keepsSram_of rfl _, keepsSfrs_of rfl _, State.imageByte_congr rfl rfl,
    keepsFlags_of rfl, ⟨rfl, rfl, rfl, rfl, rfl⟩, ⟨rfl, rfl, rfl⟩, rfl, rfl⟩
  have hne : k ≠ a.setWidth 5 := fun e => hk (e ▸ setWidth_reg_of_lt hlt)
  simp [hne]

/-- A write of an SFR of plain storage. -/
theorem storesAt_sfr {s : State} {a : Word} {v : Byte} (h : dataPlace s.part a = .sfr) :
    StoresAt a v s ((s.setSfrByte a.toNat v).observe (.write a.toNat v)) := by
  refine ⟨rfl, by simp [h], fun k _ => by simp, keepsSram_of rfl _, fun b hb => ?_, State.imageByte_congr rfl rfl,
    keepsFlags_of rfl, ⟨rfl, rfl, rfl, rfl, rfl⟩, ⟨rfl, rfl, rfl⟩, rfl, rfl⟩
  exact State.sfrByte_setSfrByte_ne (by simpa using hb)

/-- A write of an SRAM byte. -/
theorem storesAt_sram {s : State} {a : Word} {v : Byte} (h : dataPlace s.part a = .sram) :
    StoresAt a v s { s with sram := Memory.write none s.sram a.toNat v } := by
  refine ⟨rfl, by simp [h], fun k _ => rfl, fun b hb => ?_, keepsSfrs_of rfl _, State.imageByte_congr rfl rfl,
    keepsFlags_of rfl, ⟨rfl, rfl, rfl, rfl, rfl⟩, ⟨rfl, rfl, rfl⟩, rfl, rfl⟩
  exact Memory.read_write_ne (hb a (by simp))

/-- A write where the byte is stored plainly completes. -/
theorem State.memWrite_store {s : State} {a : Word} (v : Byte) (h : storePlace s.part a) :
    ∃ u, s.memWrite a v = .ok u ∧ StoresAt a v s u := by
  unfold storePlace at h
  cases hp : dataPlace s.part a with
  | register r => exact ⟨_, by simp [State.memWrite, hp], storesAt_register hp⟩
  | sfr =>
    rw [hp] at h
    obtain ⟨hcore, hkind⟩ := h
    exact ⟨_, by simp [State.memWrite, State.ioWrite, hp, hcore, hkind], storesAt_sfr hp⟩
  | sram => exact ⟨_, State.memWrite_sram hp, storesAt_sram hp⟩
  | unimplemented => rw [hp] at h; cases h

/-- Where a byte was stored plainly it is read again, in a canonical SFR memory. -/
theorem State.memWrite_byteAt {s u : State} {a : Word} {v : Byte} (hwf : Memory.wf (some 0#8) s.sfr = true)
    (h : storePlace s.part a) (hw : s.memWrite a v = .ok u) : byteAt u a = some v := by
  unfold storePlace at h
  rcases State.memWrite_cases hw with ⟨r, hp, rfl⟩ | ⟨hp, hw⟩ | ⟨hp, rfl⟩
  · simp [byteAt, hp]
  · rw [hp] at h
    obtain ⟨hcore, hkind⟩ := h
    simp only [State.ioWrite, hcore, hkind] at hw
    cases hw
    have hrise : Memory.rising s.sfr = true := (Bool.and_eq_true_iff.1 hwf).1
    simp only [byteAt, State.observe_part, State.setSfrByte_part, hp]
    exact congrArg some (State.sfrByte_setSfrByte_self hrise)
  · simp only [byteAt, hp]
    exact Memory.read_write_self_none

-- The stack pointer step by step (R321, R322).

/-- One push down, then k more. -/
theorem spDown_succ (p : Part) (sp : Word) (k : Nat) : spDown p (spMod p (sp - 1)) k = spDown p sp (k + 1) := by
  induction k with
  | zero => rfl
  | succ k ih => rw [spDown, ih]; rfl

/-- A push where SP points to plain storage completes, and SP is one lower. -/
theorem State.push8_store {s : State} (v : Byte) (h : storePlace s.part s.sp) :
    ∃ u, s.push8 v = .ok u ∧ u.part = s.part ∧ u.sp = spMod s.part (s.sp - 1) := by
  obtain ⟨u, hw, hsp, -⟩ := State.memWrite_store v h
  obtain ⟨hpart, -⟩ := State.memWrite_frame hw
  exact ⟨u.setSp (u.sp - 1), by rw [State.push8, hw]; rfl, hpart, by simp [hpart, hsp]⟩

/-- The first of several pushes to plain storage: what is left to push finds the same places. -/
theorem State.push8_stackStores {s : State} {j : Nat} (v : Byte) (h : stackStores s (j + 1)) :
    ∃ u, s.push8 v = .ok u ∧ u.part = s.part ∧ (∀ k, spDown u.part u.sp k = spDown s.part s.sp (k + 1)) ∧
      stackStores u j := by
  obtain ⟨u, hu, hpart, hsp⟩ := State.push8_store v (h 0 (by omega))
  have hdown : ∀ k, spDown u.part u.sp k = spDown s.part s.sp (k + 1) := by
    intro k
    rw [hpart, hsp, spDown_succ]
  refine ⟨u, hu, hpart, hdown, fun k hk => ?_⟩
  rw [hdown, hpart]
  exact h (k + 1) (by omega)

-- The faults of reads and writes (R45, R62, R72).

/-- A write faults as `writeFault` says. -/
theorem State.memWrite_fault {s : State} {a : Word} {v : Byte} {f : Fault} (h : writeFault s.part a = some f) :
    s.memWrite a v = .error f := by
  unfold writeFault at h
  unfold State.memWrite
  cases hp : dataPlace s.part a with
  | register _ | sram => simp [hp] at h
  | sfr =>
    simp only [hp] at h
    split at h
    · cases h
      rename_i hnone
      simp [State.ioWrite, hnone]
    · cases h
  | unimplemented => simpa [hp] using h

/-- A read faults as `readFault` says. -/
theorem State.memRead_fault {s : State} {a : Word} {f : Fault} (h : readFault s a = some f) :
    s.memRead a = .error f := by
  unfold readFault writeFault at h
  unfold State.memRead
  cases hp : dataPlace s.part a with
  | register _ => simp [hp] at h
  | sram =>
    simp only [hp, true_and] at h
    split at h
    · cases h
      rename_i hnone
      simp [hnone]
    · cases h
  | sfr =>
    simp only [hp, reduceCtorEq, false_and, if_false] at h
    split at h
    · cases h
      rename_i hnone
      simp [State.ioRead, hnone]
    · cases h
  | unimplemented => simpa [hp] using h

/-- The data-space address of an SFR number (R62). -/
theorem toNat_sfrNumber {w : Nat} (a : BitVec w) (h : a.toNat < 64) :
    (a.setWidth 16 + 0x20 : Word).toNat = sfrAddr a.toNat := by
  have h16 : (0x20 : Word).toNat = 32 := rfl
  simp only [BitVec.toNat_add, BitVec.toNat_setWidth, sfrAddr, h16]
  omega

/-- The address of an SFR number is an SFR (R62). -/
theorem dataPlace_sfrNumber {w : Nat} (p : Part) (a : BitVec w) (h : a.toNat < 64) :
    dataPlace p (a.setWidth 16 + 0x20) = .sfr := by
  have ha := toNat_sfrNumber a h
  unfold sfrAddr at ha
  unfold dataPlace
  rw [if_neg (by omega), if_pos (by omega)]

/-- A read of an SFR by its number faults as the read of its address. -/
theorem State.ioRead_fault {s : State} {w : Nat} {a : BitVec w} {f : Fault} (h : a.toNat < 64)
    (hf : readFault s (a.setWidth 16 + 0x20) = some f) : s.ioRead (sfrAddr a.toNat) = .error f := by
  have hread := State.memRead_fault hf
  rwa [State.memRead, dataPlace_sfrNumber s.part a h, toNat_sfrNumber a h] at hread

/-- A write of an SFR by its number faults as the write of its address. -/
theorem State.ioWrite_fault {s : State} {w : Nat} {a : BitVec w} {v : Byte} {f : Fault} (h : a.toNat < 64)
    (hf : writeFault s.part (a.setWidth 16 + 0x20) = some f) : s.ioWrite (sfrAddr a.toNat) v = .error f := by
  have hwrite := State.memWrite_fault (v := v) hf
  rwa [State.memWrite, dataPlace_sfrNumber s.part a h, toNat_sfrNumber a h] at hwrite

/-- An effect whose first part faults. -/
theorem orFault_bind_error {α : Type} {x : Except Fault α} {g : α → Except Fault State} {f : Fault}
    (h : x = .error f) : orFault (x.bind g) = .fault f := by
  rw [h]; rfl

/-- A push faults as the write at SP. -/
theorem State.push8_fault {s : State} {v : Byte} {f : Fault} (h : writeFault s.part s.sp = some f) :
    s.push8 v = .error f := by
  rw [State.push8, State.memWrite_fault h]; rfl

/-- Pushing a return address faults at the first byte it cannot store. -/
theorem State.pushPc_fault {s : State} {a : PcWord} {j : Nat} {f : Fault} (hj : j < retBytes s.part)
    (hstore : stackStores s j) (hf : writeFault s.part (spDown s.part s.sp j) = some f) : s.pushPc a = .error f := by
  unfold State.pushPc
  match j with
  | 0 => rw [State.push8_fault hf]; rfl
  | j + 1 =>
    obtain ⟨u, hu, hpart, hdown, hstore'⟩ := State.push8_stackStores (a.extractLsb' 0 8) hstore
    rw [← hdown, ← hpart] at hf
    simp only [hu, Except.bind]
    match j with
    | 0 => simp only [State.push8_fault hf]
    | j + 1 =>
      obtain ⟨w, hw, hpart', hdown', -⟩ := State.push8_stackStores (a.extractLsb' 8 8) hstore'
      rw [← hdown', ← hpart'] at hf
      simp only [hw]
      cases hwidth : s.part.pcWidth with
      | bits16 => simp [retBytes, hwidth] at hj
      | bits22 =>
        have hj0 : j = 0 := by simp only [retBytes, hwidth] at hj; omega
        subst hj0
        exact State.push8_fault hf

/-- A pop of plain storage, of whatever byte. -/
theorem State.pop8_of_plain {s : State} (h : plainByte s (spMod s.part (s.sp + 1)) ≠ none) :
    ∃ v, s.pop8 = .ok (v, s.setSp (s.sp + 1)) := by
  obtain ⟨v, hv⟩ := Option.ne_none_iff_exists'.1 h
  exact ⟨v, State.pop8_plain hv⟩

/-- A pop faults as the read above SP. -/
theorem State.pop8_fault {s : State} {f : Fault} (h : readFault s (spMod s.part (s.sp + 1)) = some f) :
    s.pop8 = .error f := State.memRead_fault (s := s.setSp (s.sp + 1)) h

/-- Popping a return address faults at the first byte it cannot read. -/
theorem State.popPc_fault {s : State} {j : Nat} {f : Fault} (hj : j < retBytes s.part)
    (hplain : ∀ l < j, plainByte s (spUp s.part s.sp (l + 1)) ≠ none)
    (hf : readFault s (spUp s.part s.sp (j + 1)) = some f) : s.popPc = .error f := by
  unfold State.popPc
  match j with
  | 0 =>
    rw [State.pop8_fault hf]
    cases s.part.pcWidth <;> rfl
  | j + 1 =>
    obtain ⟨v, hv⟩ := State.pop8_of_plain (hplain 0 (by omega))
    simp only [hv, Except.bind]
    match j with
    | 0 =>
      have hf' : (s.setSp (s.sp + 1)).pop8 = .error f := State.pop8_fault hf
      rw [hf']
      cases s.part.pcWidth <;> rfl
    | j + 1 =>
      obtain ⟨w, hw⟩ := State.pop8_of_plain (s := s.setSp (s.sp + 1)) (hplain 1 (by omega))
      cases hwidth : s.part.pcWidth with
      | bits16 => simp [retBytes, hwidth] at hj
      | bits22 =>
        have hj0 : j = 0 := by simp only [retBytes, hwidth] at hj; omega
        subst hj0
        have hf' : ((s.setSp (s.sp + 1)).setSp ((s.setSp (s.sp + 1)).sp + 1)).pop8 = .error f := State.pop8_fault hf
        simp only [hw, hf']

end Sys2Proof.Machine
end

section
/-! SUPPORT. Each form that reads or writes the data space faults as its first access does (O52); PUSH and POP (O55). -/

namespace Sys2Proof.Machine

section

variable {s : State} {a : Word} {f : Fault}

/-- A load faults as its read does. -/
theorem State.load_fault {d n} (h : readFault s a = some f) : orFault (s.load d a n) = .fault f :=
  orFault_bind_error (State.memRead_fault h)

/-- A post-increment load with its data register outside the pointer. -/
theorem State.loadInc_fault {i d p} (hfree : d ≠ p ∧ d ≠ p + 1) (h : readFault s (s.pair p) = some f) :
    unlessInPointer p d i s (orFault (s.loadInc d p)) = .fault f :=
  (unlessInPointer_of hfree).trans (orFault_bind_error (State.memRead_fault h))

/-- A pre-decrement load with its data register outside the pointer. -/
theorem State.loadDec_fault {i d p} (hfree : d ≠ p ∧ d ≠ p + 1) (h : readFault s (s.pair p - 1) = some f) :
    unlessInPointer p d i s (orFault (s.loadDec d p)) = .fault f :=
  (unlessInPointer_of hfree).trans (orFault_bind_error (State.memRead_fault (s := s.setPair p (s.pair p - 1)) h))

/-- A store faults as its write does. -/
theorem State.store_fault {r n} (h : writeFault s.part a = some f) : orFault (s.store a r n) = .fault f :=
  orFault_bind_error (State.memWrite_fault h)

/-- A post-increment store with its data register outside the pointer. -/
theorem State.storeInc_fault {i r p} (hfree : r ≠ p ∧ r ≠ p + 1) (h : writeFault s.part (s.pair p) = some f) :
    unlessInPointer p r i s (orFault (s.storeInc p r)) = .fault f :=
  (unlessInPointer_of hfree).trans (orFault_bind_error (State.memWrite_fault h))

/-- A pre-decrement store with its data register outside the pointer. -/
theorem State.storeDec_fault {i r p} (hfree : r ≠ p ∧ r ≠ p + 1) (h : writeFault s.part (s.pair p - 1) = some f) :
    unlessInPointer p r i s (orFault (s.storeDec p r)) = .fault f :=
  (unlessInPointer_of hfree).trans
    (orFault_bind_error (State.memWrite_fault (s := s.setPair p (s.pair p - 1)) h))

/-- RET and RETI fault at the first byte they cannot read. -/
theorem return_fault {j : Nat} (hj : j < retBytes s.part)
    (hplain : ∀ l < j, plainByte s (spUp s.part s.sp (l + 1)) ≠ none)
    (hf : readFault s (spUp s.part s.sp (j + 1)) = some f) : exec .ret s = .fault f ∧ exec .reti s = .fault f :=
  ⟨orFault_bind_error (State.popPc_fault hj hplain hf), orFault_bind_error (State.popPc_fault hj hplain hf)⟩

/-- A group that is not absent is present. -/
theorem present_of_not_absent {b : Bool} (h : (!b) = false) : b = true := by simpa using h

/-- A call faults at the first byte it cannot push. -/
theorem call_fault {i : Instr} {j : Nat} (hi : isCall i = true) (hpresent : absentOn s.part i = false)
    (hj : j < retBytes s.part) (hstore : stackStores s j) (hf : writeFault s.part (spDown s.part s.sp j) = some f) :
    exec i s = .fault f := by
  have hcall : ∀ n target, orFault (s.call n target) = .fault f :=
    fun n target => orFault_bind_error (State.pushPc_fault hj hstore hf)
  cases i with
  | rcall k => exact hcall _ _
  | call k => exact (ifPresent_of (present_of_not_absent hpresent)).trans (hcall _ _)
  | icall => exact (ifPresent_of (present_of_not_absent hpresent)).trans (hcall _ _)
  | eicall => exact (ifPresent_of (present_of_not_absent hpresent)).trans (hcall _ _)
  | _ => cases hi

/-- The entry of an accepted interrupt faults at the first byte it cannot push. -/
theorem step_entry_fault {r : State} {src : IrqSource} {n j : Nat} (hstop : r.stopped = false)
    (hdog : r.watchdogExpired = false) (hs : s = r.receiveRequests) (haccept : s.accepted = some (src, n))
    (hj : j < retBytes s.part) (hstore : stackStores s j) (hf : writeFault s.part (spDown s.part s.sp j) = some f) :
    step r = .fault f := by
  subst hs
  have hentry : orFault (r.receiveRequests.enterInterrupt src n) = .fault f :=
    orFault_bind_error (State.pushPc_fault (s := { r.receiveRequests with sleeping := false }) hj hstore hf)
  simp only [step, State.boundary, State.watchdogPassed, hstop, hdog, Bool.false_and, Bool.false_eq_true, if_false,
    State.proceed, haccept, hentry]

/-- Every form that reads the data space faults as its first read does. -/
theorem readForms_fault (d : Reg) (q a : BitVec 6) (k : Word) (e : BitVec 5) (b : BitVec 3) :
    ∀ c ∈ readForms s d q a k e b, absentOn s.part c.1 = false → pointerFree c.1 → readFault s c.2 = some f →
      exec c.1 s = .fault f := by
  have ha : a.toNat < 64 := a.isLt
  have he : e.toNat < 64 := by omega
  have hj : 0 < retBytes s.part := by unfold retBytes; split <;> decide
  simp only [readForms, List.forall_mem_cons]
  refine ⟨fun _ _ hf => State.load_fault hf, fun _ _ hf => State.load_fault hf,
    fun _ hp hf => State.loadInc_fault (hp _ _ rfl) hf, fun _ hp hf => State.loadDec_fault (hp _ _ rfl) hf,
    fun _ _ hf => State.load_fault hf, fun _ hp hf => State.loadInc_fault (hp _ _ rfl) hf,
    fun _ hp hf => State.loadDec_fault (hp _ _ rfl) hf, fun _ _ hf => State.load_fault hf,
    fun _ _ hf => State.load_fault hf, fun _ hp hf => State.loadInc_fault (hp _ _ rfl) hf,
    fun _ hp hf => State.loadDec_fault (hp _ _ rfl) hf, fun _ _ hf => State.load_fault hf,
    fun _ _ hf => orFault_bind_error (State.ioRead_fault ha hf),
    fun _ _ hf => orFault_bind_error (State.ioRead_fault he hf),
    fun _ _ hf => orFault_bind_error (State.ioRead_fault he hf),
    fun _ _ hf => orFault_bind_error (State.ioRead_fault he hf),
    fun _ _ hf => orFault_bind_error (State.ioRead_fault he hf),
    fun hg _ hf => (ifPresent_of (present_of_not_absent hg)).trans (orFault_bind_error (State.pop8_fault hf)),
    fun _ _ hf => (return_fault hj (by simp) hf).1, fun _ _ hf => (return_fault hj (by simp) hf).2,
    fun _ h => nomatch h⟩

/-- Every form that writes the data space without reading it faults as its first write does. -/
theorem writeForms_fault (r : Reg) (q a : BitVec 6) (k : Word) (m : BitVec 12) (n : BitVec 22) :
    ∀ c ∈ writeForms s r q a k m n, absentOn s.part c.1 = false → pointerFree c.1 →
      writeFault s.part c.2 = some f → exec c.1 s = .fault f := by
  have ha : a.toNat < 64 := a.isLt
  have hj : 0 < retBytes s.part := by unfold retBytes; split <;> decide
  have hnone : stackStores s 0 := fun _ hk => absurd hk (Nat.not_lt_zero _)
  simp only [writeForms, List.forall_mem_cons]
  refine ⟨fun _ _ hf => State.store_fault hf, fun _ _ hf => State.store_fault hf,
    fun _ hp hf => State.storeInc_fault (hp _ _ rfl) hf, fun _ hp hf => State.storeDec_fault (hp _ _ rfl) hf,
    fun _ _ hf => State.store_fault hf, fun _ hp hf => State.storeInc_fault (hp _ _ rfl) hf,
    fun _ hp hf => State.storeDec_fault (hp _ _ rfl) hf, fun _ _ hf => State.store_fault hf,
    fun _ _ hf => State.store_fault hf, fun _ hp hf => State.storeInc_fault (hp _ _ rfl) hf,
    fun _ hp hf => State.storeDec_fault (hp _ _ rfl) hf, fun _ _ hf => State.store_fault hf,
    fun _ _ hf => orFault_bind_error (State.ioWrite_fault ha hf),
    fun hg _ hf => (ifPresent_of (present_of_not_absent hg)).trans (orFault_bind_error (State.push8_fault hf)),
    fun hg _ hf => call_fault rfl hg hj hnone hf, fun hg _ hf => call_fault rfl hg hj hnone hf,
    fun hg _ hf => call_fault rfl hg hj hnone hf, fun hg _ hf => call_fault rfl hg hj hnone hf,
    fun _ h => nomatch h⟩

/-- An address beyond the registers, the SFRs and SRAM is unimplemented (R62). -/
theorem dataPlace_unimplemented {p : Part} (h96 : 96 ≤ a.toNat) (hstart : p.sramStart ≤ a.toNat)
    (hend : p.ramEnd < a.toNat) : dataPlace p a = .unimplemented := by
  unfold dataPlace
  rw [if_neg (by omega), if_neg (by omega), if_neg (by omega), if_neg (by omega)]

/-- An address from `SRAM_START` to `RAMEND` is SRAM (R62). -/
theorem dataPlace_eq_sram {p : Part} (h96 : 96 ≤ a.toNat) (hstart : p.sramStart ≤ a.toNat)
    (hend : a.toNat ≤ p.ramEnd) : dataPlace p a = .sram := by
  unfold dataPlace
  rw [if_neg (by omega), if_neg (by omega), if_neg (by omega), if_pos hend]

/-- Where a write faults a read faults alike: no SRAM byte is concerned. -/
theorem readFault_of_writeFault (h : writeFault s.part a = some f) : readFault s a = some f := by
  have hplace : dataPlace s.part a ≠ .sram := by
    intro hp
    simp [writeFault, hp] at h
  rw [readFault, if_neg (fun hc => hplace hc.1), h]

end

/-- Settles O52: every form faults as the reads and writes it is made of. -/
theorem unreachableDataStops : Obligations.UnreachableDataStops := by
  intro d k s
  have hboth : ∀ f, writeFault s.part k = some f → exec (.lds d k) s = .fault f ∧ exec (.sts k d) s = .fault f :=
    fun f hf => ⟨State.load_fault (readFault_of_writeFault hf), State.store_fault hf⟩
  refine ⟨fun _ h96 hstart hend => hboth _ ?_, fun h96 hstart hend hnone => State.load_fault ?_,
    fun hp hcore hkind => hboth _ ?_, fun q a e b m n f => ⟨readForms_fault d q a k e b, writeForms_fault d q a k m n⟩,
    fun j f hj hstore hf => ⟨fun i hi hpresent => call_fault hi hpresent hj hstore hf,
      fun r src n hstop hdog hs haccept => step_entry_fault hstop hdog hs haccept hj hstore hf⟩,
    fun j f hj hplain hf => return_fault hj hplain hf⟩
  · simp [writeFault, dataPlace_unimplemented h96 hstart hend]
  · simp [readFault, dataPlace_eq_sram h96 hstart hend, hnone]
  · simp [writeFault, hp, hcore, hkind]

-- PUSH and POP (R321, R322).

/-- PUSH on a part that has it. -/
theorem exec_push {s : State} (r : Reg) (h : s.part.hasStackOps = true) :
    exec (.push r) s = orFault ((s.push8 (s.reg r)).bind fun u => .ok (u.advance 1)) := ifPresent_of h

/-- POP on a part that has it. -/
theorem exec_pop {s : State} (d : Reg) (h : s.part.hasStackOps = true) :
    exec (.pop d) s = orFault (s.pop8.bind fun v => .ok ((v.2.setReg d v.1).advance 1)) := ifPresent_of h

/-- PUSH where the write at SP completes. -/
theorem exec_push_of_memWrite {s u : State} {r : Reg} (h : s.part.hasStackOps = true)
    (hw : s.memWrite s.sp (s.reg r) = .ok u) : exec (.push r) s = .next ((u.setSp (u.sp - 1)).advance 1) := by
  rw [exec_push r h, State.push8, hw]; rfl

/-- A byte stored at SP, with SP one lower and pc on, is one pushed byte. -/
theorem pushedBytes_one {s u : State} {v : Byte} {n : PcWord} (hpart : u.part = s.part)
    (hbyte : byteAt u s.sp = some v) (h : StoresAt s.sp v s u) :
    pushedBytes [v] s ((u.setSp (u.sp - 1)).advance n) := by
  obtain ⟨hsp, hlog, hregs, hsram, hsfrs, hprog, hflags, hhidden, hcontrol, hdelay, hdraws⟩ := h
  have hslots : pushSlots s 1 = [s.sp] := rfl
  refine ⟨fun k x hk => ?_, by simp [hpart, hsp, spDown], ?_, fun k hk => ?_, hsram, hsfrs, hprog, hflags, hhidden,
    hcontrol, hdelay, hdraws⟩
  · match k with
    | 0 =>
      cases hk
      exact hbyte
    | k + 1 => cases hk
  · exact hlog.trans (congrArg (s.ioLog ++ ·) (List.append_nil _).symm)
  · exact hregs k (by simpa [hslots] using hk)

/-- Settles O55: PUSH is the write at SP and POP the read above it, as STS and LDS do them. -/
theorem pushAndPopMoveTheStackPointer : Obligations.PushAndPopMoveTheStackPointer := by
  intro d v s hops
  refine ⟨fun hp => ?_, fun hv => ?_, fun hwf hp => ?_, fun t ht => ?_, fun u t hu ht => ?_⟩
  · obtain ⟨-, -, -, hsram, -, hprog, hflags, hhidden, hcontrol, hdelay, hdraws⟩ :=
      storesAt_sram (v := s.reg d) hp
    exact ⟨_, exec_push_of_memWrite hops (State.memWrite_sram hp), Memory.read_write_self_none, rfl, hsram,
      keepsSfrs_of rfl _, hprog, keepsRegs_of rfl, hflags, hhidden, ⟨rfl, hdraws, hdelay⟩, hcontrol⟩
  · refine ⟨((s.setSp (s.sp + 1)).setReg d v).advance 1, by rw [exec_pop d hops, State.pop8_plain hv]; rfl, by simp,
      rfl, fun k hk => ?_, keepsFlags_of rfl, keepsMemory_of rfl rfl rfl rfl, ⟨rfl, rfl, rfl, rfl, rfl⟩,
      ⟨rfl, rfl, rfl⟩, ⟨rfl, rfl, rfl⟩⟩
    have hne : k ≠ d := by simpa using hk
    simp [hne]
  · obtain ⟨u, hw, hstores⟩ := State.memWrite_store (s.reg d) hp
    exact ⟨_, exec_push_of_memWrite hops hw,
      pushedBytes_one (State.memWrite_frame hw).1 (State.memWrite_byteAt hwf hp hw) hstores⟩
  · obtain ⟨u, hw, rfl⟩ := State.store_ok (orFault_next.1 ht)
    obtain ⟨hpart, hpc, -⟩ := State.memWrite_frame hw
    rw [exec_push_of_memWrite hops hw, onlyOneWord, ← hpart, ← hpc]
    rfl
  · have hset : u = s.setSp (s.sp + 1) := hu
    obtain ⟨x, w, hr, rfl⟩ := State.load_ok (orFault_next.1 ht)
    obtain ⟨hpart, hpc, -⟩ := State.memRead_frame hr
    subst hset
    have hpop : s.pop8 = .ok (x, w) := hr
    rw [exec_pop d hops, hpop, onlyOneWord, show s.part = w.part from hpart.symm, show s.pc = w.pc from hpc.symm]
    rfl

end Sys2Proof.Machine
end

section
/-! SUPPORT. The architectural registers as SFRs (O57): what IN and OUT leave where an SFR is reached plainly as one of
them, and at the SFR of MCUCR by what the part describes there (R34, R44, R72). -/

namespace Sys2Proof.Machine

section

variable {s u : State} {d : Reg} {a : BitVec 6} {v : Byte} {c : CoreSfr} {f : Fault}

-- IN and OUT as the access of their SFR (R323, R324).

/-- IN where the read of its SFR completes. -/
theorem exec_in_of (h : s.ioRead (sfrAddr a.toNat) = .ok (v, u)) :
    exec (.in_ d a) s = .next ((u.setReg d v).advance 1) := by
  change execIn d a s = _
  rw [execIn, h]
  rfl

/-- OUT where the write of its SFR completes. -/
theorem exec_out_of (h : s.ioWrite (sfrAddr a.toNat) (s.reg d) = .ok u) : exec (.out a d) s = .next (u.advance 1) := by
  change execOut a d s = _
  rw [execOut, h]
  rfl

/-- After IN the register holds the byte read, and the registers are those after the read but for it. -/
theorem reg_in (h : u.regs = s.regs) :
    ((u.setReg d v).advance 1).reg d = v ∧ KeepsRegs [d] s ((u.setReg d v).advance 1) := by
  refine ⟨by simp, fun k hk => ?_⟩
  have hne : k ≠ d := by simpa using hk
  simp [hne, State.reg_congr h]

/-- IN of an SFR reached plainly as an architectural register. -/
theorem exec_in_core (d : Reg) (h : coreSfrAt s.part (sfrAddr a.toNat) = some c) :
    ∃ t, exec (.in_ d a) s = .next t ∧ t.reg d = s.coreRead c ∧ KeepsRegs [d] s t ∧
      sfrReadFrame (sfrAddr a.toNat) (s.coreRead c) s t := by
  have hread : s.ioRead (sfrAddr a.toNat) =
      .ok (s.coreRead c, s.observe (.read (sfrAddr a.toNat) (s.coreRead c))) := by
    simp only [State.ioRead, h]
  obtain ⟨hreg, hregs⟩ := reg_in (s := s) (d := d) (v := s.coreRead c)
    (u := s.observe (.read (sfrAddr a.toNat) (s.coreRead c))) rfl
  exact ⟨_, exec_in_of hread, hreg, hregs, rfl, keepsFlags_of rfl, keepsSram_of rfl _, keepsSfrs_of rfl _,
    State.imageByte_congr rfl rfl, ⟨rfl, rfl, rfl, rfl, rfl⟩, ⟨rfl, rfl, rfl⟩, rfl, rfl⟩

/-- The state after OUT of an SFR reached plainly as the architectural register c. -/
def outCore (s : State) (c : CoreSfr) (a : BitVec 6) (d : Reg) : State :=
  ((s.coreWrite c (s.reg d)).observe (.write (sfrAddr a.toNat) (s.reg d))).advance 1

/-- OUT of an SFR reached plainly as an architectural register. -/
theorem exec_out_core (d : Reg) (h : coreSfrAt s.part (sfrAddr a.toNat) = some c) :
    exec (.out a d) s = .next (outCore s c a d) :=
  exec_out_of (by simp only [State.ioWrite, h])

/-- No general register, no memory and no hidden state changes where an architectural register is written. -/
theorem keepsRegs_outCore : KeepsRegs [] s (outCore s c a d) := keepsRegs_of (by simp [outCore])
theorem keepsMemory_outCore : KeepsMemory s (outCore s c a d) :=
  keepsMemory_of (by simp [outCore]) (by simp [outCore]) (by simp [outCore]) (by simp [outCore])
theorem keepsHidden_outCore : KeepsHidden s (outCore s c a d) := by simp [KeepsHidden, outCore]

-- Which SFR is which register (R34).

/-- An SFR of an architectural register but MCUCR is reached plainly. -/
theorem coreSfrAt_of_archSfrAt {p : Part} {n : Nat} (h : archSfrAt p n = some c) (hc : c ≠ .mcucr) :
    coreSfrAt p n = some c := by
  unfold coreSfrAt
  rw [h]
  cases c with
  | mcucr => exact absurd rfl hc
  | _ => rfl

theorem coreSfrAt_sreg (p : Part) : coreSfrAt p (sfrAddr (0x3F : BitVec 6).toNat) = some .sreg :=
  coreSfrAt_of_archSfrAt (by simp [archSfrAt, sfrAddr]) (by decide)
theorem coreSfrAt_sph (p : Part) : coreSfrAt p (sfrAddr (0x3E : BitVec 6).toNat) = some .sph :=
  coreSfrAt_of_archSfrAt (by simp [archSfrAt, sfrAddr]) (by decide)
theorem coreSfrAt_spl (p : Part) : coreSfrAt p (sfrAddr (0x3D : BitVec 6).toNat) = some .spl :=
  coreSfrAt_of_archSfrAt (by simp [archSfrAt, sfrAddr]) (by decide)
theorem coreSfrAt_eind {p : Part} (h : p.hasExt = true) :
    coreSfrAt p (sfrAddr (0x3C : BitVec 6).toNat) = some .eind :=
  coreSfrAt_of_archSfrAt (by simp [archSfrAt, sfrAddr, h]) (by decide)
theorem coreSfrAt_rampz {p : Part} (h : p.hasExt = true) :
    coreSfrAt p (sfrAddr (0x3B : BitVec 6).toNat) = some .rampz :=
  coreSfrAt_of_archSfrAt (by simp [archSfrAt, sfrAddr, h]) (by decide)

/-- The SFR of MCUCR is reached plainly exactly where the part makes it plain storage (R44, R72). -/
theorem coreSfrAt_mcucr {p : Part} {n : Nat} (h : archSfrAt p n = some .mcucr) :
    coreSfrAt p n = if sfrKindAt p n = some .storage then some .mcucr else none := by
  simp only [coreSfrAt, h]

-- The two bytes of SP (R29, R34, R74).

/-- The low byte of SP is the low byte written. -/
theorem lowByte_spMod (p : Part) (h l : Byte) : lowByte (spMod p (h ++ l)) = l := by
  unfold spMod
  cases p.spWidth with
  | bits16 => exact lowByte_append h l
  | bits8 =>
    apply BitVec.eq_of_toNat_eq
    have hl := l.isLt
    simp only [lowByte, BitVec.extractLsb'_append_eq_right, BitVec.extractLsb'_toNat, BitVec.toNat_setWidth,
      Nat.shiftRight_zero]
    omega

/-- A byte in 16 bits has no high byte. -/
theorem highByte_eq_zero {w : Word} (h : w.toNat < 256) : highByte w = 0 := by
  apply BitVec.eq_of_toNat_eq
  simp only [highByte, BitVec.extractLsb'_toNat, Nat.shiftRight_eq_div_pow, Nat.div_eq_of_lt h]
  rfl

/-- The high byte of SP is the high byte written, and 0 where SP has 8 bits. -/
theorem highByte_spMod (p : Part) (h l : Byte) :
    highByte (spMod p (h ++ l)) = if p.spWidth = .bits16 then h else 0 := by
  unfold spMod
  cases p.spWidth with
  | bits16 => exact highByte_append h l
  | bits8 =>
    refine highByte_eq_zero ?_
    have hl := l.isLt
    simp only [BitVec.extractLsb'_append_eq_right, BitVec.toNat_setWidth]
    omega

/-- A write of SREG that sets I starts `irq_delay` where the free value says so (R411). -/
theorem State.writeSreg_irqDelay (s : State) (v : Byte) :
    (s.writeSreg v).irqDelay =
      if flagI s.sreg = false ∧ v.getLsbD 7 = true ∧ Config.sregWriteDelays s.draws = true then .set
      else s.irqDelay := by
  unfold State.writeSreg flagI
  cases s.sreg.getLsbD 7 <;> cases v.getLsbD 7 <;> cases Config.sregWriteDelays s.draws <;> rfl

-- MCUCR by the kind of its SFR (R44, R72).

/-- IN and OUT at an SFR without description. -/
theorem exec_in_out_undescribed (d : Reg) (hc : coreSfrAt s.part (sfrAddr a.toNat) = none)
    (hk : sfrKindAt s.part (sfrAddr a.toNat) = none) :
    exec (.in_ d a) s = .fault (.sfrUndescribed (sfrAddr a.toNat)) ∧
      exec (.out a d) s = .fault (.sfrUndescribed (sfrAddr a.toNat)) :=
  ⟨orFault_bind_error (by simp only [State.ioRead, hc, hk]), orFault_bind_error (by simp only [State.ioWrite, hc, hk])⟩

/-- IN at a pin register: a free byte. -/
theorem exec_in_pins (d : Reg) (hc : coreSfrAt s.part (sfrAddr a.toNat) = none)
    (hk : sfrKindAt s.part (sfrAddr a.toNat) = some .pins) :
    ∃ t, exec (.in_ d a) s = .next t ∧ t.reg d = Config.pinByte s.draws ∧ KeepsControl s t ∧ KeepsRegs [d] s t := by
  have hread : s.ioRead (sfrAddr a.toNat) = .ok (Config.pinByte s.draws,
      (s.observe (.read (sfrAddr a.toNat) (Config.pinByte s.draws))).drawn) := by
    simp only [State.ioRead, hc, hk]
  obtain ⟨hreg, hregs⟩ := reg_in (s := s) (d := d) (v := Config.pinByte s.draws)
    (u := (s.observe (.read (sfrAddr a.toNat) (Config.pinByte s.draws))).drawn) rfl
  exact ⟨_, exec_in_of hread, hreg, ⟨rfl, rfl, rfl⟩, hregs⟩

/-- OUT at a pin register leaves no trace in the machine. -/
theorem exec_out_pins (d : Reg) (hc : coreSfrAt s.part (sfrAddr a.toNat) = none)
    (hk : sfrKindAt s.part (sfrAddr a.toNat) = some .pins) :
    ∃ t, exec (.out a d) s = .next t ∧ KeepsControl s t ∧ KeepsRegs [] s t ∧ KeepsFlags [] s t ∧ KeepsMemory s t ∧
      KeepsHidden s t ∧ t.sp = s.sp := by
  have hwrite : s.ioWrite (sfrAddr a.toNat) (s.reg d) =
      .ok (s.observe (.write (sfrAddr a.toNat) (s.reg d))) := by
    simp only [State.ioWrite, hc, hk]
  exact ⟨_, exec_out_of hwrite, ⟨rfl, rfl, rfl⟩, keepsRegs_of rfl, keepsFlags_of rfl, keepsMemory_of rfl rfl rfl rfl,
    ⟨rfl, rfl, rfl, rfl, rfl⟩, rfl⟩

/-- IN at the SFR of MCUCR where it is a status register: MCUCR with the flags its device has raised. -/
theorem exec_in_mcucr_flags (d : Reg) (ha : archSfrAt s.part (sfrAddr a.toNat) = some .mcucr)
    (hc : coreSfrAt s.part (sfrAddr a.toNat) = none) (hk : sfrKindAt s.part (sfrAddr a.toNat) = some .flags) :
    ∃ t v, exec (.in_ d a) s = .next t ∧ v = (s.mcucr ||| Config.flagsRaised s.draws) ∧ t.reg d = v ∧
      t.mcucr = v ∧ t.rampz = s.rampz ∧ t.eind = s.eind ∧ KeepsRegs [d] s t ∧ KeepsFlags [] s t ∧
      KeepsMemory s t ∧ KeepsHidden s t ∧ t.sp = s.sp := by
  let v := s.mcucr ||| Config.flagsRaised s.draws
  let w : State := (({ s with mcucr := v } : State).observe (.read (sfrAddr a.toNat) v)).drawn
  have hread : s.ioRead (sfrAddr a.toNat) = .ok (v, w) := by
    simp only [State.ioRead, hc, hk, State.sfrView, State.setSfrView, ha, State.coreRead, State.coreWrite, v, w]
  obtain ⟨hreg, hregs⟩ := reg_in (s := s) (d := d) (v := v) (u := w) rfl
  exact ⟨_, v, exec_in_of hread, rfl, hreg, rfl, rfl, rfl, hregs, keepsFlags_of rfl, keepsMemory_of rfl rfl rfl rfl,
    ⟨rfl, rfl, rfl, rfl, rfl⟩, rfl⟩

/-- OUT at the SFR of MCUCR where it is a status register: the flags written 1 are cleared. -/
theorem exec_out_mcucr_flags (d : Reg) (ha : archSfrAt s.part (sfrAddr a.toNat) = some .mcucr)
    (hc : coreSfrAt s.part (sfrAddr a.toNat) = none) (hk : sfrKindAt s.part (sfrAddr a.toNat) = some .flags) :
    ∃ t, exec (.out a d) s = .next t ∧
      (∀ n < 8, t.mcucr.getLsbD n = (s.mcucr.getLsbD n && !(s.reg d).getLsbD n)) ∧ t.rampz = s.rampz ∧
      t.eind = s.eind ∧ KeepsRegs [] s t ∧ KeepsFlags [] s t ∧ KeepsMemory s t ∧ t.sp = s.sp := by
  let w : State := (({ s with mcucr := s.mcucr &&& ~~~s.reg d } : State).withdraw (sfrAddr a.toNat) (s.reg d)).observe
    (.write (sfrAddr a.toNat) (s.reg d))
  have hwrite : s.ioWrite (sfrAddr a.toNat) (s.reg d) = .ok w := by
    simp only [State.ioWrite, hc, hk, State.sfrView, State.setSfrView, ha, State.coreRead, State.coreWrite, w]
  refine ⟨_, exec_out_of hwrite, fun n hn => ?_, rfl, rfl, keepsRegs_of rfl, keepsFlags_of rfl,
    keepsMemory_of rfl rfl rfl rfl, rfl⟩
  change (s.mcucr &&& ~~~s.reg d).getLsbD n = _
  simp [hn]

end

/-- Settles O57: by `coreSfrAt` each SFR is reached as its register, that of MCUCR by the kind of its address. -/
theorem coreRegistersAsSfrs : Obligations.CoreRegistersAsSfrs := by
  intro d s
  have hsreg := coreSfrAt_sreg s.part
  have hspl := coreSfrAt_spl s.part
  have hsph := coreSfrAt_sph s.part
  obtain ⟨t, ht, hreg, hregs, -⟩ := exec_in_core d hsph
  refine ⟨exec_in_core d hsreg, ?_, ⟨t, ht, hreg, hregs⟩, fun hw hsp => ⟨t, ht, hreg.trans ?_, hregs⟩,
    ⟨_, exec_out_core d hsreg, by simp [outCore, State.coreWrite], keepsRegs_outCore, keepsMemory_outCore,
      keepsHidden_outCore, by simp [KeepsControl, outCore, State.coreWrite], by simp [outCore, State.coreWrite],
      s.writeSreg_irqDelay (s.reg d)⟩,
    ⟨_, exec_out_core d hspl, lowByte_spMod _ _ _, fun hw => (highByte_spMod _ _ _).trans (if_pos hw),
      keepsRegs_outCore, keepsFlags_of rfl, keepsMemory_outCore, keepsHidden_outCore, ⟨rfl, rfl, rfl⟩, rfl⟩,
    ⟨_, exec_out_core d hsph, lowByte_spMod _ _ _, highByte_spMod _ _ _, keepsRegs_outCore, keepsFlags_of rfl,
      keepsMemory_outCore, keepsHidden_outCore, ⟨rfl, rfl, rfl⟩, rfl⟩, fun hext => ?_, fun a ha => ?_⟩
  · obtain ⟨t, ht, hreg, hregs, -⟩ := exec_in_core d hspl
    exact ⟨t, ht, hreg, hregs⟩
  · exact highByte_eq_zero (by simpa [spSpan, hw] using hsp)
  · have heind := coreSfrAt_eind hext
    have hrampz := coreSfrAt_rampz hext
    obtain ⟨t, ht, hreg, hregs, -⟩ := exec_in_core d heind
    obtain ⟨u, hu, hreg', hregs', -⟩ := exec_in_core d hrampz
    exact ⟨⟨t, ht, hreg, hregs⟩, ⟨u, hu, hreg', hregs'⟩,
      ⟨_, exec_out_core d heind, rfl, rfl, rfl, keepsRegs_outCore, keepsFlags_of rfl, keepsMemory_outCore,
        keepsHidden_outCore, rfl⟩,
      ⟨_, exec_out_core d hrampz, rfl, rfl, rfl, keepsRegs_outCore, keepsFlags_of rfl, keepsMemory_outCore,
        keepsHidden_outCore, rfl⟩⟩
  · have hcore := coreSfrAt_mcucr ha
    refine ⟨fun hk => ?_, fun hk => ?_, fun hk => ?_, fun hk => ?_⟩
    · replace hcore := hcore.trans (if_pos hk)
      obtain ⟨t, ht, hreg, hregs, -⟩ := exec_in_core d hcore
      exact ⟨⟨t, ht, hreg, hregs⟩, _, exec_out_core d hcore, rfl, rfl, rfl, keepsRegs_outCore, keepsFlags_of rfl,
        keepsMemory_outCore, keepsHidden_outCore, rfl⟩
    · replace hcore := hcore.trans (if_neg (by simp [hk]))
      exact exec_in_out_undescribed d hcore hk
    · replace hcore := hcore.trans (if_neg (by simp [hk]))
      exact ⟨exec_in_pins d hcore hk, exec_out_pins d hcore hk⟩
    · replace hcore := hcore.trans (if_neg (by simp [hk]))
      exact ⟨exec_in_mcucr_flags d ha hcore hk, exec_out_mcucr_flags d ha hcore hk⟩

end Sys2Proof.Machine
end

section
/-! SUPPORT. The data space below $20 (O48), the SFRs in both address spaces (O49), loads from the program memory at Z
(O53), and addition on register pairs (O26). -/

namespace Sys2Proof.Machine

-- The registers as data addresses (R62, R84).

/-- An address below $20 is the register of that number (R62). -/
theorem dataPlace_of_lt {p : Part} {k : Word} (h : k.toNat < 32) :
    dataPlace p k = .register (BitVec.ofNat 5 k.toNat) := by
  simp [dataPlace, h]

/-- Settles O48: the data place of k is the register. -/
theorem dataAddressesBelow20AreRegisters : Obligations.DataAddressesBelow20AreRegisters := by
  intro r k s hk
  have hplace := dataPlace_of_lt (p := s.part) hk
  generalize BitVec.ofNat 5 k.toNat = x at hplace ⊢
  have hwrite : s.memWrite k (s.reg r) = .ok (s.setReg x (s.reg r)) := by simp only [State.memWrite, hplace]
  have hread : s.memRead k = .ok (s.reg x, s) := by simp only [State.memRead, hplace]
  have hmove : ∀ d v, KeepsRegs [d] s ((s.setReg d v).advance 2) ∧ KeepsFlags [] s ((s.setReg d v).advance 2) ∧
      KeepsRest s ((s.setReg d v).advance 2) := by
    intro d v
    refine ⟨fun j hj => ?_, keepsFlags_of rfl, keepsMemory_of rfl rfl rfl rfl, ⟨rfl, rfl, rfl, rfl, rfl⟩,
      ⟨rfl, rfl, rfl⟩, ⟨rfl, rfl, rfl⟩, rfl⟩
    have hne : j ≠ d := by simpa using hj
    simp [hne]
  constructor
  · refine ⟨(s.setReg x (s.reg r)).advance 2, ?_, by simp, hmove _ _⟩
    change orFault (s.store k r 2) = _
    rw [State.store, hwrite]
    rfl
  · refine ⟨(s.setReg r (s.reg x)).advance 2, ?_, by simp, hmove _ _⟩
    change orFault (s.load r k 2) = _
    rw [State.load, hread]
    rfl

-- The SFRs in the I/O space and in the data space (R62, R84, R323, R324).

/-- A data-space read at the address of an SFR number is the read of that SFR. -/
theorem State.memRead_sfrNumber (s : State) (a : BitVec 6) :
    s.memRead (a.setWidth 16 + 0x20) = s.ioRead (sfrAddr a.toNat) := by
  rw [State.memRead, dataPlace_sfrNumber s.part a a.isLt, toNat_sfrNumber a a.isLt]

/-- A data-space write at the address of an SFR number is the write of that SFR. -/
theorem State.memWrite_sfrNumber (s : State) (a : BitVec 6) (v : Byte) :
    s.memWrite (a.setWidth 16 + 0x20) v = s.ioWrite (sfrAddr a.toNat) v := by
  rw [State.memWrite, dataPlace_sfrNumber s.part a a.isLt, toNat_sfrNumber a a.isLt]

/-- Settles O49: LDS and STS make the access of IN and OUT, which leaves pc alone, and advance by two words. -/
theorem sfrIsTheSameInBothSpaces : Obligations.SfrIsTheSameInBothSpaces := by
  intro d a s t
  constructor
  · intro h
    obtain ⟨⟨v, u⟩, hread, ht⟩ := bind_ok (orFault_next.1 h)
    cases ht
    obtain ⟨hpart, hpc, -⟩ := State.ioRead_frame hread
    change orFault (s.load d _ 2) = _
    rw [State.load, State.memRead_sfrNumber, hread, ← hpart, ← hpc]
    rfl
  · intro h
    obtain ⟨u, hwrite, ht⟩ := bind_ok (orFault_next.1 h)
    cases ht
    obtain ⟨hpart, hpc, -⟩ := State.ioWrite_frame hwrite
    change orFault (s.store _ d 2) = _
    rw [State.store, State.memWrite_sfrNumber, hwrite, ← hpart, ← hpc]
    rfl

-- Loads from the program memory at Z (R66, R314 to R316).

/-- Settles O53: the two forms that keep Z load one program byte, the third then writes Z + 1. -/
theorem lpmReadsTheByteAtZ : Obligations.LpmReadsTheByteAtZ := by
  intro d s
  refine ⟨loadsProgram_of_loadProg rfl, fun hlpm => loadsProgram_of_loadProg (ifPresent_of hlpm),
    fun hlpm h30 h31 => loadsProgram_of_update h30 h31 ?_⟩
  exact (ifPresent_of hlpm).trans (unlessInPointer_of ⟨h30, h31⟩)

-- Addition on register pairs (R83, R140, R143, R144).

/-- The carry-in counts as one bit. -/
theorem toNat_carryByte (c : Bool) : (carryByte c).toNat = bitNat c := by
  cases c <;> rfl

/-- The number of the result of an 8-bit addition (R140). -/
theorem toNat_add8 (a b : Byte) (c : Bool) : (add8 a b c).toNat = (a.toNat + b.toNat + bitNat c) % 256 := by
  simp only [add8, BitVec.toNat_add, toNat_carryByte]
  omega

/-- C after an 8-bit addition is the carry out of bit 7 (R140). -/
theorem flagC_add8Flags (sr a b : Byte) (c : Bool) :
    flagC (add8Flags sr a b c) = decide (255 < a.toNat + b.toNat + bitNat c) := by
  have hsum := toNat_add8 a b c
  have hc : bitNat c ≤ 1 := by cases c <;> decide
  have ha := a.isLt
  have hb := b.isLt
  have hmsb : ∀ x : Byte, x.getLsbD 7 = decide (128 ≤ x.toNat) := fun x => x.msb_eq_decide
  simp only [add8Flags, flagC_sregOf, hmsb]
  rw [Bool.eq_iff_iff]
  simp only [Bool.or_eq_true, Bool.and_eq_true, Bool.not_eq_true', decide_eq_true_eq, decide_eq_false_iff_not]
  omega

/-- A pair as a number. -/
theorem State.toNat_pair (s : State) (p : Reg) : (s.pair p).toNat = (s.reg (p + 1)).toNat * 256 + (s.reg p).toNat :=
  toNat_append_eq _ _

/-- The high register of an even pair is the low register of none. -/
theorem succ_ne_of_isEven {d r : Reg} (hd : d.isEven = true) (hr : r.isEven = true) : r + 1 ≠ d := by
  revert d r
  decide

/-- Settles O26: the carry out of the low bytes is the carry into the high ones. -/
theorem addThenAdcAddsSixteenBits : Obligations.AddThenAdcAddsSixteenBits := by
  intro d r s t u hd hr hadd hadc
  cases hadd
  cases hadc
  have hlow : bitNat (flagC (add8Flags s.sreg (s.reg d) (s.reg r) false)) =
      ((s.reg d).toNat + (s.reg r).toNat) / 256 := by
    rw [flagC_add8Flags]
    have := (s.reg d).isLt
    have := (s.reg r).isLt
    simp only [bitNat, Bool.false_eq_true, if_false, decide_eq_true_eq]
    split <;> omega
  have hdd := reg_succ_ne d
  have hrd := succ_ne_of_isEven hd hr
  constructor
  · simp only [State.toNat_pair, State.reg_result, State.result_sreg, if_true, hdd, hdd.symm, hrd, if_false,
      toNat_add8, hlow]
    simp only [bitNat, Bool.false_eq_true, if_false]
    omega
  · simp only [State.result_sreg, flagC_add8Flags (sr := add8Flags _ _ _ _), State.reg_result, hdd, hrd, if_false,
      hlow, State.toNat_pair]
    congr 1
    simp only [eq_iff_iff]
    omega

end Sys2Proof.Machine
end

section
/-! SUPPORT. No step writes the program memory or the part (O18): the image stays under every operation that may fault,
so under every instruction and every boundary (R79, R80, R463). -/

namespace Sys2Proof.Machine

/-- The program memory and the part are unchanged. -/
def SameImage (s t : State) : Prop := t.prog = s.prog ∧ t.part = s.part

/-- A next state of the outcome has the program memory and the part of s. -/
def KeepsImage (s : State) (o : Host.Outcome State Fault Refusal) : Prop := ∀ t, o = .next t → SameImage s t

section

variable {s t u : State} {k : Host.Outcome State Fault Refusal}

theorem SameImage.trans {v : State} (h : SameImage s t) (h' : SameImage t v) : SameImage s v :=
  ⟨h'.1.trans h.1, h'.2.trans h.2⟩

/-- A further change of fields that are neither keeps the image. -/
theorem SameImage.change (h : SameImage s u) (hprog : t.prog = u.prog) (hpart : t.part = u.part) : SameImage s t :=
  h.trans ⟨hprog, hpart⟩

/-- What the frame of a shared operation says of the image. -/
theorem SameImage.of_frame {q : Prop} (h : t.part = s.part ∧ t.pc = s.pc ∧ t.prog = s.prog ∧ q) : SameImage s t :=
  ⟨h.2.2.1, h.1⟩

-- The shared operations, by their frames.

theorem SameImage.memRead {a v} (e : s.memRead a = .ok (v, t)) : SameImage s t := .of_frame (State.memRead_frame e)
theorem SameImage.memWrite {a v} (e : s.memWrite a v = .ok t) : SameImage s t := .of_frame (State.memWrite_frame e)
theorem SameImage.ioRead {a v} (e : s.ioRead a = .ok (v, t)) : SameImage s t := .of_frame (State.ioRead_frame e)
theorem SameImage.ioWrite {a v} (e : s.ioWrite a v = .ok t) : SameImage s t := .of_frame (State.ioWrite_frame e)
theorem SameImage.push8 {v} (e : s.push8 v = .ok t) : SameImage s t := .of_frame (State.push8_frame e)
theorem SameImage.pop8 {v} (e : s.pop8 = .ok (v, t)) : SameImage s t := .of_frame (State.pop8_frame e)
theorem SameImage.pushPc {a} (e : s.pushPc a = .ok t) : SameImage s t := .of_frame (State.pushPc_frame e)
theorem SameImage.popPc {a} (e : s.popPc = .ok (a, t)) : SameImage s t := .of_frame (State.popPc_frame e)

/-- A skip changes pc alone. -/
theorem SameImage.skip {c} (e : s.skip c = .ok t) : SameImage s t := by
  rw [State.skip_ok e]
  exact ⟨rfl, rfl⟩

/-- A next state with the same image. -/
theorem KeepsImage.next (h : SameImage s t) : KeepsImage s (.next t) := by
  intro u e; cases e; exact h

/-- A fault has no next state. -/
theorem KeepsImage.fault (f : Fault) : KeepsImage s (.fault f) := by
  intro u e; cases e

/-- An effect that may fault, whose results have the same image. -/
theorem KeepsImage.orFault {r : Except Fault State} (h : ∀ {t}, r = .ok t → SameImage s t) :
    KeepsImage s (orFault r) :=
  fun _ e => h (orFault_next.1 e)

/-- An effect that may fault, then a change of the state it leaves. -/
theorem KeepsImage.bind {α : Type} {x : Except Fault α} {f : α → State} (h : ∀ {a}, x = .ok a → SameImage s (f a)) :
    KeepsImage s (Machine.orFault (x.bind fun a => .ok (f a))) := by
  refine .orFault fun e => ?_
  obtain ⟨a, hx, e⟩ := bind_ok e
  cases e
  exact h hx

/-- The check for an optional group. -/
theorem KeepsImage.ifPresent {b i} (h : KeepsImage s k) : KeepsImage s (ifPresent b i s k) :=
  fun t e => h t (ifPresent_next e).2

/-- The check of the data register against the pointer. -/
theorem KeepsImage.unlessInPointer {r d i} (h : KeepsImage s k) : KeepsImage s (unlessInPointer r d i s k) :=
  fun t e => h t (unlessInPointer_next e).2

/-- A read-modify-write of an SFR keeps the image. -/
theorem SameImage.modifySfr {a b v} (e : s.modifySfr a b v = .ok t) : SameImage s t := by
  obtain ⟨x, u, w, hr, hw, rfl⟩ := State.modifySfr_ok e
  exact ((SameImage.ioRead hr).trans (.ioWrite hw)).change rfl rfl

/-- A branch keeps the image. -/
theorem SameImage.branch (s : State) (c k) : SameImage s (s.branch c k) := by
  rw [State.branch_eq]
  exact ⟨rfl, rfl⟩

/-- Taking an interrupt keeps the image. -/
theorem SameImage.enterInterrupt {src n} (e : s.enterInterrupt src n = .ok t) : SameImage s t := by
  obtain ⟨hpart, -, -, hprog, -⟩ := State.enterInterrupt_ok e
  exact ⟨hprog, hpart⟩

/-- Returning from an interrupt keeps the image. -/
theorem SameImage.leaveInterrupt (e : s.leaveInterrupt = .ok t) : SameImage s t := by
  obtain ⟨a, u, hu, rfl⟩ := State.leaveInterrupt_ok e
  exact (SameImage.popPc hu).change rfl rfl

/-- No instruction writes the program memory or the part. The cases are grouped by the shared operation that is the
instruction's meaning. -/
theorem keepsImage_exec (i : Instr) (s : State) : KeepsImage s (exec i s) := by
  cases i with
  -- registers, SREG, pc and hidden state
  | cpc | cp | cpi | bst | sbc | add | sub | adc | and_ | eor | or_ | sbci | subi | ori | andi | com | neg | inc | asr
  | lsr | ror | dec | clr | tst | lsl | rol | cbr | sbr | adiw | sbiw | mov | ldi | swap | bld | ser | bclr | clc | clz
  | cln | clv | cls | clh | clt | cli | bset | sec | sez | sen | sev | ses | seh | set_ | sei | nop | sleep | wdr
  | rjmp => exact .next ⟨rfl, rfl⟩
  | mul | muls | mulsu | fmul | fmuls | fmulsu | movw | jmp | ijmp | eijmp => exact .ifPresent (.next ⟨rfl, rfl⟩)
  | break_ =>
    refine .next ?_
    split <;> exact ⟨rfl, rfl⟩
  -- branches, calls, returns, skips
  | brbs | brbc | brcc | brcs | brsh | brlo | brne | breq | brpl | brmi | brvc | brvs | brge | brlt | brhc | brhs | brtc
  | brts | brid | brie | bric => exact .next (.branch _ _ _)
  | rcall => exact .bind fun e => (SameImage.pushPc e).change rfl rfl
  | call | icall | eicall => exact .ifPresent (.bind fun e => (SameImage.pushPc e).change rfl rfl)
  | ret => exact .bind fun e => (SameImage.popPc e).change rfl rfl
  | reti => exact .orFault SameImage.leaveInterrupt
  | cpse | sbrc | sbrs => exact .orFault SameImage.skip
  | sbic | sbis =>
    refine .orFault fun e => ?_
    obtain ⟨⟨v, u⟩, hr, e⟩ := bind_ok e
    exact (SameImage.ioRead hr).trans (.skip e)
  -- the data space
  | lds | ldX | ldY | ldZ | lddY | lddZ => exact .bind fun e => (SameImage.memRead e).change rfl rfl
  | ldXInc | ldYInc | ldZInc => exact .unlessInPointer (.bind fun e => (SameImage.memRead e).change rfl rfl)
  | ldXDec | ldYDec | ldZDec => exact .unlessInPointer (.bind fun e => (SameImage.memRead e).change rfl rfl)
  | sts | stX | stY | stZ | stdY | stdZ => exact .bind fun e => (SameImage.memWrite e).change rfl rfl
  | stXInc | stYInc | stZInc => exact .unlessInPointer (.bind fun e => (SameImage.memWrite e).change rfl rfl)
  | stXDec | stYDec | stZDec => exact .unlessInPointer (.bind fun e => (SameImage.memWrite e).change rfl rfl)
  | push => exact .ifPresent (.bind fun e => (SameImage.push8 e).change rfl rfl)
  | pop => exact .ifPresent (.bind fun e => (SameImage.pop8 e).change rfl rfl)
  | in_ => exact .bind fun e => (SameImage.ioRead e).change rfl rfl
  | out => exact .bind fun e => (SameImage.ioWrite e).change rfl rfl
  | sbi | cbi => exact .orFault SameImage.modifySfr
  -- the program memory
  | lpm => exact .bind fun _ => ⟨rfl, rfl⟩
  | lpmRd | elpm | elpmRd => exact .ifPresent (.bind fun _ => ⟨rfl, rfl⟩)
  | lpmRdInc | elpmRdInc => exact .ifPresent (.unlessInPointer (.bind fun _ => ⟨rfl, rfl⟩))
  | spm => exact .ifPresent (.fault _)

/-- What happens once the devices have acted keeps the image. -/
theorem SameImage.proceed (e : s.proceed exec = .next t) : SameImage s t := by
  rcases State.proceed_next e with ⟨src, n, -, he⟩ | ⟨-, -, rfl⟩ | ⟨-, -, he⟩
  · exact .enterInterrupt he
  · exact ⟨rfl, rfl⟩
  · obtain ⟨i, u, -, hu, rfl⟩ := State.runInstruction_next he
    exact keepsImage_exec i s.startDelay u hu

end

/-- Settles O18: a step is a reset within the run, which puts the image back, or what `proceed` leaves. -/
theorem noStepChangesProgramOrPart : Obligations.NoStepChangesProgramOrPart := by
  intro s t e
  obtain ⟨-, ⟨-, -, rfl⟩ | he⟩ := step_next e
  · exact ⟨rfl, rfl⟩
  · obtain ⟨hprog, hpart⟩ := SameImage.proceed he
    exact ⟨by simpa using hprog, by simpa using hpart⟩

end Sys2Proof.Machine
end

section
/-! SUPPORT. The return address on the stack: pushed by the calls (O41) and by interrupt entry (O11), popped by the
returns (O42, O43). -/

namespace Sys2Proof.Machine

-- A return address as a list of bytes (R67).

/-- Push bytes one after the other, the first at SP. -/
def State.pushAll : State → List Byte → Except Fault State
  | s, [] => .ok s
  | s, v :: vs => (s.push8 v).bind fun u => u.pushAll vs

/-- The bytes of a return address, with a 16-bit PC and with a 22-bit PC. -/
theorem returnBytes_eq (p : Part) (a : PcWord) :
    returnBytes p a = a.extractLsb' 0 8 :: a.extractLsb' 8 8 ::
      (match p.pcWidth with
      | .bits16 => []
      | .bits22 => [(a.extractLsb' 16 6).setWidth 8]) := by
  have h0 : BitVec.ofNat 8 a.toNat = a.extractLsb' 0 8 := by
    apply BitVec.eq_of_toNat_eq
    simp [BitVec.extractLsb'_toNat]
  have h1 : BitVec.ofNat 8 (a.toNat / 256) = a.extractLsb' 8 8 := by
    apply BitVec.eq_of_toNat_eq
    simp [BitVec.extractLsb'_toNat, Nat.shiftRight_eq_div_pow]
  have h2 : BitVec.ofNat 8 (a.toNat / 65536) = (a.extractLsb' 16 6).setWidth 8 := by
    apply BitVec.eq_of_toNat_eq
    have := a.isLt
    simp only [BitVec.toNat_ofNat, BitVec.toNat_setWidth, BitVec.extractLsb'_toNat, Nat.shiftRight_eq_div_pow]
    omega
  cases hp : p.pcWidth <;> simp [returnBytes, retBytes, hp, List.range_succ, h0, h1, h2]

/-- A return address has `RET_BYTES` bytes. -/
@[simp] theorem length_returnBytes (p : Part) (a : PcWord) : (returnBytes p a).length = retBytes p := by
  simp [returnBytes]

/-- Byte k of a return address. -/
theorem getElem?_returnBytes {p : Part} (a : PcWord) {k : Nat} (h : k < retBytes p) :
    (returnBytes p a)[k]? = some (BitVec.ofNat 8 (a.toNat / 256 ^ k)) := by
  simp [returnBytes, h]

/-- `RET_BYTES` is 2 or 3 (R4). -/
theorem retBytes_bounds (p : Part) : 2 ≤ retBytes p ∧ retBytes p ≤ 3 := by
  unfold retBytes
  split <;> decide

/-- Pushing a return address pushes its bytes. -/
theorem State.pushPc_eq_pushAll (s : State) (a : PcWord) : s.pushPc a = s.pushAll (returnBytes s.part a) := by
  have hok : ∀ x : Except Fault State, (x.bind fun u => .ok u) = x := fun x => by cases x <;> rfl
  rw [returnBytes_eq]
  cases hp : s.part.pcWidth <;> simp only [State.pushPc, State.pushAll, hp, hok]

-- The places of pushed bytes (R74, R321).

/-- SP modulo 256 after k pushes, whatever its width. -/
theorem spDown_toNat_mod (p : Part) (sp : Word) (k : Nat) :
    (spDown p sp k).toNat % 256 = (sp.toNat + 255 * k) % 256 := by
  have hmod : ∀ a, (spMod p a).toNat % 256 = a.toNat % 256 := by
    intro a
    unfold spMod
    split
    · rfl
    · simp only [BitVec.toNat_setWidth, BitVec.extractLsb'_toNat, Nat.shiftRight_zero]
      omega
  induction k with
  | zero => rfl
  | succ k ih =>
    have hone : (1 : Word).toNat = 1 := rfl
    simp only [spDown, hmod, BitVec.toNat_sub, hone]
    omega

/-- No later push of fewer than 256 writes where the first one did. -/
theorem spDown_succ_ne (p : Part) (sp : Word) {k : Nat} (hk : k < 255) : spDown p sp (k + 1) ≠ sp := by
  intro h
  have hmod := spDown_toNat_mod p sp (k + 1)
  rw [h] at hmod
  omega

/-- The places of several pushes: SP, then those of a state with SP one lower. -/
theorem pushSlots_succ {s u : State} (hpart : u.part = s.part) (hsp : u.sp = spDown s.part s.sp 1) (n : Nat) :
    pushSlots s (n + 1) = s.sp :: pushSlots u n := by
  have hdown : ∀ k, spDown u.part u.sp k = spDown s.part s.sp (k + 1) := by
    intro k
    rw [hpart, hsp]
    exact spDown_succ _ _ _
  simp [pushSlots, List.range_succ_eq_map, hdown, spDown]

/-- The places below SP are not SP. -/
theorem sp_notMem_pushSlots {s u : State} (hpart : u.part = s.part) (hsp : u.sp = spDown s.part s.sp 1) {n : Nat}
    (hn : n < 256) : s.sp ∉ pushSlots u n := by
  simp only [pushSlots, List.mem_map, List.mem_range, not_exists, not_and]
  intro k hk
  rw [hpart, hsp]
  exact spDown_succ s.part s.sp k ▸ spDown_succ_ne s.part s.sp (by omega)

-- Pushes into SRAM.

/-- The state with another SRAM and another SP, which is all that pushes into SRAM change. -/
def State.withStack (s : State) (m : Memory) (sp : Word) : State := { s with sram := m, sp := sp }

/-- Pushes into SRAM complete: only SRAM and SP change, the bytes lie at SP and below, and no other byte changes. -/
theorem State.pushAll_sram {vs : List Byte} {s : State} (h : stackRoom s vs.length) (hlen : vs.length ≤ 256) :
    ∃ m, s.pushAll vs = .ok (s.withStack m (spDown s.part s.sp vs.length)) ∧
      (∀ k v, vs[k]? = some v → Memory.read none m (spDown s.part s.sp k).toNat = some v) ∧
      ∀ a, (∀ w ∈ pushSlots s vs.length, a ≠ w.toNat) → Memory.read none m a = s.sramByte a := by
  induction vs generalizing s with
  | nil => exact ⟨s.sram, rfl, by simp, fun _ _ => rfl⟩
  | cons v vs ih =>
    rw [List.length_cons] at h hlen ⊢
    let u := s.withStack (Memory.write none s.sram s.sp.toNat v) (spDown s.part s.sp 1)
    have hdown : ∀ k, spDown u.part u.sp k = spDown s.part s.sp (k + 1) := spDown_succ s.part s.sp
    have hroom : stackRoom u vs.length := fun k hk => (congrArg _ (hdown k)).trans (h (k + 1) (by omega))
    obtain ⟨m, hpush, hbytes, hkeep⟩ := ih hroom (by omega)
    have hslots : pushSlots s (vs.length + 1) = s.sp :: pushSlots u vs.length :=
      pushSlots_succ (s := s) (u := u) rfl rfl _
    have hfirst : s.sp ∉ pushSlots u vs.length := sp_notMem_pushSlots (s := s) (u := u) rfl rfl (by omega)
    refine ⟨m, ?_, fun k x hk => ?_, fun a ha => ?_⟩
    · rw [State.pushAll, State.push8_sram (h 0 (by omega)), ← hdown]
      exact hpush
    · cases k with
      | zero =>
        obtain rfl : v = x := by simpa using hk
        refine (hkeep s.sp.toNat fun w hw e => hfirst ?_).trans Memory.read_write_self_none
        rwa [BitVec.eq_of_toNat_eq e]
      | succ k => exact hdown k ▸ hbytes k x hk
    · rw [hslots, List.forall_mem_cons] at ha
      exact (hkeep a ha.2).trans (Memory.read_write_ne ha.1)

/-- Pushing a return address into SRAM changes SRAM and SP alone. -/
theorem State.pushPc_sram {s : State} (a : PcWord) (h : stackRoom s (retBytes s.part)) :
    ∃ m, s.pushPc a = .ok (s.withStack m (spDown s.part s.sp (retBytes s.part))) ∧
      pushedAddress a s (s.withStack m (spDown s.part s.sp (retBytes s.part))) ∧
      KeepsSram (pushSlots s (retBytes s.part)) s (s.withStack m (spDown s.part s.sp (retBytes s.part))) := by
  obtain ⟨hlow, hhigh⟩ := retBytes_bounds s.part
  rw [← length_returnBytes s.part a] at h
  obtain ⟨m, hpush, hbytes, hkeep⟩ := State.pushAll_sram h (by simp; omega)
  rw [length_returnBytes] at hpush hkeep
  have hbyte : ∀ k < retBytes s.part,
      Memory.read none m (spDown s.part s.sp k).toNat = some (BitVec.ofNat 8 (a.toNat / 256 ^ k)) :=
    fun k hk => hbytes k _ (getElem?_returnBytes a hk)
  have hfirst := hbyte 0 (by omega)
  rw [Nat.pow_zero, Nat.div_one] at hfirst
  refine ⟨m, by rw [State.pushPc_eq_pushAll, hpush], ⟨hfirst, hbyte 1 (by omega), fun hw => hbyte 2 ?_, rfl⟩,
    hkeep⟩
  simp [retBytes, hw]

/-- A call whose pushes fall into SRAM completes. -/
theorem State.call_sram {s : State} (n target : PcWord) (h : stackRoom s (retBytes s.part)) :
    ∃ t, s.call n target = .ok t ∧ callOutcome n target s t := by
  obtain ⟨m, hpush, hbytes, hkeep⟩ := State.pushPc_sram (s.pcPlus n) h
  exact ⟨(s.withStack m (spDown s.part s.sp (retBytes s.part))).jump target, by rw [State.call, hpush]; rfl, rfl,
    hbytes, keepsRegs_of rfl, keepsFlags_of rfl, hkeep, keepsSfrs_of rfl _, State.imageByte_congr rfl rfl,
    ⟨rfl, rfl, rfl, rfl, rfl⟩, ⟨rfl, rfl, rfl⟩, ⟨rfl, rfl, rfl⟩⟩

-- Pushes to plain storage of any kind (R73).

/-- A write where the byte is stored plainly keeps the SFR memory canonical. -/
theorem State.memWrite_wf {s u : State} {a : Word} {v : Byte} (hwf : Memory.wf (some 0#8) s.sfr = true)
    (h : storePlace s.part a) (hw : s.memWrite a v = .ok u) : Memory.wf (some 0#8) u.sfr = true := by
  unfold storePlace at h
  rcases State.memWrite_cases hw with ⟨r, -, rfl⟩ | ⟨hp, hw⟩ | ⟨-, rfl⟩
  · exact hwf
  · rw [hp] at h
    obtain ⟨hcore, hkind⟩ := h
    simp only [State.ioWrite, hcore, hkind] at hw
    cases hw
    exact Memory.write_wf hwf
  · exact hwf

/-- One push to plain storage leaves one pushed byte, and the SFR memory canonical. -/
theorem State.push8_pushedBytes {s u : State} {v : Byte} (hwf : Memory.wf (some 0#8) s.sfr = true)
    (h : storePlace s.part s.sp) (hu : s.push8 v = .ok u) :
    pushedBytes [v] s u ∧ Memory.wf (some 0#8) u.sfr = true := by
  obtain ⟨w, hw, hstores⟩ := State.memWrite_store v h
  rw [State.push8, hw] at hu
  cases hu
  exact ⟨pushedBytes_one (n := 0) (State.memWrite_frame hw).1 (State.memWrite_byteAt hwf h hw) hstores,
    State.memWrite_wf (u := w) hwf h hw⟩

/-- A byte that a frame of registers, SRAM and SFRs leaves alone. -/
theorem byteAt_of_keeps {s t : State} {as : List Word} {a : Word} (hpart : t.part = s.part)
    (hregs : ∀ k : Reg, k.setWidth 16 ∉ as → t.reg k = s.reg k) (hsram : KeepsSram as s t)
    (hsfrs : KeepsSfrs (as.map (·.toNat)) s t) (ha : a ∉ as) : byteAt t a = byteAt s a := by
  have hnat : ∀ w ∈ as, a.toNat ≠ w.toNat := fun w hw e => ha (BitVec.eq_of_toNat_eq e ▸ hw)
  unfold byteAt
  rw [hpart]
  cases hp : dataPlace s.part a with
  | register d =>
    obtain ⟨hlt, rfl⟩ := dataPlace_register hp
    exact congrArg some (hregs _ (by rwa [setWidth_reg_of_lt hlt]))
  | sfr => exact congrArg some (hsfrs _ (by simpa using fun w hw e => hnat w hw e.symm))
  | sram => exact hsram _ hnat
  | unimplemented => rfl

/-- The pushes seen outside: the first one, then those of a state with SP one lower. -/
theorem seenPushes_cons {s u : State} (hpart : u.part = s.part) (hsp : u.sp = spDown s.part s.sp 1) (v : Byte)
    (vs : List Byte) : seenPushes s (v :: vs) = seenPushes s [v] ++ seenPushes u vs := by
  have hdown : ∀ k, spDown s.part u.sp k = spDown s.part s.sp (k + 1) := by
    intro k
    rw [hsp]
    exact spDown_succ _ _ _
  simp [seenPushes, List.zipIdx_cons, List.zipIdx_succ, List.flatMap_map, hdown, hpart]

/-- One pushed byte, then more of them. -/
theorem pushedBytes_cons {s u t : State} {v : Byte} {vs : List Byte} (hlen : vs.length < 256)
    (hone : pushedBytes [v] s u) (hmore : pushedBytes vs u t) : pushedBytes (v :: vs) s t := by
  obtain ⟨hbyte, hsp, hlog, hregs, hsram, hsfrs, hprog, hflags, hhidden, hcontrol, hdelay, hdraws⟩ := hone
  obtain ⟨hbyte', hsp', hlog', hregs', hsram', hsfrs', hprog', hflags', hhidden', hcontrol', hdelay', hdraws'⟩ := hmore
  obtain ⟨hpart, hpend, hsleep, hstop, hcount⟩ := hhidden
  obtain ⟨hpart', hpend', hsleep', hstop', hcount'⟩ := hhidden'
  obtain ⟨hz, he, hm⟩ := hcontrol
  obtain ⟨hz', he', hm'⟩ := hcontrol'
  have hslots : pushSlots s (v :: vs).length = s.sp :: pushSlots u vs.length := pushSlots_succ hpart hsp _
  have hfirst : pushSlots s [v].length = [s.sp] := rfl
  have hdown : ∀ k, spDown u.part u.sp k = spDown s.part s.sp (k + 1) := by
    intro k
    rw [hpart, hsp]
    exact spDown_succ _ _ _
  rw [hfirst] at hregs hsram hsfrs
  refine ⟨fun k x hk => ?_, by rw [hsp', hdown]; rfl, ?_, fun k hk => ?_, fun a ha => ?_, fun a ha => ?_,
    fun b => (hprog' b).trans (hprog b), fun b hb => (hflags' b hb).trans (hflags b hb),
    ⟨hpart'.trans hpart, hpend'.trans hpend, hsleep'.trans hsleep, hstop'.trans hstop, hcount'.trans hcount⟩,
    ⟨hz'.trans hz, he'.trans he, hm'.trans hm⟩, hdelay'.trans hdelay, hdraws'.trans hdraws⟩
  · cases k with
    | zero =>
      have hkept := byteAt_of_keeps hpart' hregs' hsram' hsfrs' (sp_notMem_pushSlots hpart hsp hlen)
      exact hkept.trans (hbyte 0 x (by simpa using hk))
    | succ k => exact hdown k ▸ hbyte' k x hk
  · rw [seenPushes_cons hpart hsp v vs, hlog', hlog, List.append_assoc]
  · rw [hslots, List.mem_cons, not_or] at hk
    exact (hregs' k hk.2).trans (hregs k (by simpa using hk.1))
  · rw [hslots, List.forall_mem_cons] at ha
    exact (hsram' a ha.2).trans (hsram a (by simpa using ha.1))
  · rw [hslots, List.map_cons, List.mem_cons, not_or] at ha
    exact (hsfrs' a ha.2).trans (hsfrs a (by simpa using ha.1))

/-- Pushes to plain storage of any kind complete and leave the bytes pushed. -/
theorem State.pushAll_store {vs : List Byte} {s : State} (hwf : Memory.wf (some 0#8) s.sfr = true)
    (h : stackStores s vs.length) (hlen : vs.length ≤ 256) : ∃ t, s.pushAll vs = .ok t ∧ pushedBytes vs s t := by
  induction vs generalizing s with
  | nil =>
    exact ⟨s, rfl, by simp, rfl, by simp [seenPushes], fun _ _ => rfl, fun _ _ => rfl, fun _ _ => rfl, fun _ => rfl,
      fun _ _ => rfl, ⟨rfl, rfl, rfl, rfl, rfl⟩, ⟨rfl, rfl, rfl⟩, rfl, rfl⟩
  | cons v vs ih =>
    rw [List.length_cons] at hlen
    obtain ⟨u, hu, -, -, hstores⟩ := State.push8_stackStores v h
    obtain ⟨hone, hwf'⟩ := State.push8_pushedBytes hwf (h 0 (by simp)) hu
    obtain ⟨t, ht, hmore⟩ := ih hwf' hstores (by omega)
    exact ⟨t, by rw [State.pushAll, hu]; exact ht, pushedBytes_cons (by omega) hone hmore⟩

/-- A call whose pushes fall into plain storage of any kind completes. -/
theorem State.call_store {s : State} (n target : PcWord) (hwf : Memory.wf (some 0#8) s.sfr = true)
    (h : stackStores s (retBytes s.part)) : ∃ t, s.call n target = .ok t ∧ callAnywhere n target s t := by
  obtain ⟨-, hhigh⟩ := retBytes_bounds s.part
  rw [← length_returnBytes s.part (s.pcPlus n)] at h
  obtain ⟨t, ht, hpushed⟩ := State.pushAll_store hwf h (by simp; omega)
  rw [← State.pushPc_eq_pushAll] at ht
  obtain ⟨hpart, -⟩ := State.pushPc_frame ht
  exact ⟨t.jump target, by rw [State.call, ht]; rfl, by rw [State.jump_pc, hpart], hpushed⟩

-- The calls (R247 to R250, R259).

/-- The target of ICALL as a number (R249). -/
theorem State.z_setWidth_eq (s : State) :
    s.z.setWidth 22 = BitVec.ofNat 22 ((s.reg 31).toNat * 256 + (s.reg 30).toNat) := by
  have hz : s.z.toNat = (s.reg 31).toNat * 256 + (s.reg 30).toNat := toNat_append_eq _ _
  rw [← hz, BitVec.ofNat_toNat]

/-- The target of EICALL as a number: EIND has 6 bits for it (R250, D28). -/
theorem State.extTarget_eq (s : State) :
    s.extTarget = BitVec.ofNat 22 (s.eind.toNat * 65536 + (s.reg 31).toNat * 256 + (s.reg 30).toNat) := by
  have hz : s.z.toNat = (s.reg 31).toNat * 256 + (s.reg 30).toNat := toNat_append_eq _ _
  have hlt := s.z.isLt
  apply BitVec.eq_of_toNat_eq
  rw [State.extTarget, toNat_append_eq, BitVec.extractLsb'_toNat, BitVec.toNat_ofNat, hz, Nat.shiftRight_zero]
  omega

/-- What every call of a target leaves, each of the four call instructions leaves for its target. -/
theorem exec_calls {s : State} {P : PcWord → PcWord → State → Prop}
    (h : ∀ n target, ∃ t, s.call n target = .ok t ∧ P n target t) :
    (∀ k : BitVec 12, ∃ t, exec (.rcall k) s = .next t ∧ P 1 (s.pc + k.signExtend 22 + 1) t) ∧
    (s.part.hasJmpCall = true → ∀ k : BitVec 22, ∃ t, exec (.call k) s = .next t ∧ P 2 k t) ∧
    (s.part.hasIjmpIcall = true → ∃ t, exec .icall s = .next t ∧
      P 1 (BitVec.ofNat 22 ((s.reg 31).toNat * 256 + (s.reg 30).toNat)) t) ∧
    (s.part.hasExt = true → ∃ t, exec .eicall s = .next t ∧
      P 1 (BitVec.ofNat 22 (s.eind.toNat * 65536 + (s.reg 31).toNat * 256 + (s.reg 30).toNat)) t) := by
  have hcall : ∀ n target, ∃ t, orFault (s.call n target) = .next t ∧ P n target t := by
    intro n target
    obtain ⟨t, ht, hP⟩ := h n target
    exact ⟨t, orFault_next.2 ht, hP⟩
  refine ⟨fun k => hcall _ _, fun hjmp k => ?_, fun hicall => ?_, fun hext => ?_⟩
  · rw [show exec (.call k) s = _ from ifPresent_of hjmp]
    exact hcall _ _
  · rw [show exec .icall s = _ from ifPresent_of hicall, s.z_setWidth_eq]
    exact hcall _ _
  · rw [show exec .eicall s = _ from ifPresent_of hext, s.extTarget_eq]
    exact hcall _ _

/-- Settles O41: the four calls by `call_sram` and by `call_store`. -/
theorem callsPushTheReturnAddress : Obligations.CallsPushTheReturnAddress :=
  ⟨fun _ hroom => exec_calls fun n target => State.call_sram n target hroom,
    fun _ hwf hstores => exec_calls fun n target => State.call_store n target hwf hstores⟩

-- Taking an interrupt (R407, R408).

/-- Settles O11: the step is the entry of the accepted interrupt, which pushes pc as a call does. -/
theorem interruptEntryPushesPcAndClearsI : Obligations.InterruptEntryPushesPcAndClearsI := by
  intro s u src n hstop hdog hu haccept hroom
  obtain ⟨m, hpush, hbytes, hkeep⟩ := State.pushPc_sram (s := { u with sleeping := false }) u.pc hroom
  let w := { u with sleeping := false }.withStack m (spDown u.part u.sp (retBytes u.part))
  let t : State := { w with
    sreg := sregWithBit u.sreg 7 false
    irqPending := if src.ackClears then u.irqPending.filter (fun k => k != n) else u.irqPending }.jump src.vector
  have hentry : step s = orFault (u.enterInterrupt src n) := by
    simp only [step, State.boundary, State.watchdogPassed, hstop, hdog, Bool.false_and, Bool.false_eq_true, if_false,
      State.proceed, ← hu, haccept]
  have hbit : ∀ b : BitVec 3, (sregWithBit u.sreg 7 false).getLsbD b.toNat = if b = 7 then false else _ :=
    fun b => getLsbD_sregWithBit u.sreg 7 b false
  refine ⟨t, by rw [hentry, State.enterInterrupt, hpush]; rfl, rfl, hbytes, hbit 7, fun b hb => ?_, keepsRegs_of rfl,
    rfl, rfl, hkeep, keepsSfrs_of rfl _, State.imageByte_congr rfl rfl, ⟨rfl, rfl, rfl⟩, ⟨rfl, rfl, rfl⟩, rfl, rfl, rfl⟩
  exact (hbit b).trans (if_neg (by simpa using hb))

-- The returns (R251, R252, R409, R411).

/-- Popping the bytes of a return address from plain storage answers the address, and changes SP alone. -/
theorem State.popPc_of_poppable {s : State} {a : PcWord} (h : poppable a s) :
    s.popPc = .ok (a, { s with sp := spUp s.part s.sp (retBytes s.part) }) ∧ pcMod s.part a = a := by
  unfold poppable at h
  unfold State.popPc pcMod retBytes
  cases hw : s.part.pcWidth with
  | bits16 =>
    simp only [hw] at h
    obtain ⟨x, l, hx, hl, ha⟩ := h
    have hl' : plainByte (s.setSp (s.sp + 1)) (spMod s.part ((s.setSp (s.sp + 1)).sp + 1)) = some l := hl
    have hval : (x ++ l).setWidth 22 = a := by
      apply BitVec.eq_of_toNat_eq
      rw [BitVec.toNat_setWidth, toNat_append_eq, ha]
      omega
    simp only [State.pop8_plain hx, State.pop8_plain hl', Except.bind, hval]
    refine ⟨rfl, BitVec.eq_of_toNat_eq ?_⟩
    simp only [BitVec.toNat_setWidth, BitVec.extractLsb'_toNat, Nat.shiftRight_zero]
    omega
  | bits22 =>
    simp only [hw] at h
    obtain ⟨e, x, l, he, hx, hl, ha⟩ := h
    have hx' : plainByte (s.setSp (s.sp + 1)) (spMod s.part ((s.setSp (s.sp + 1)).sp + 1)) = some x := hx
    have hl' : plainByte ((s.setSp (s.sp + 1)).setSp ((s.setSp (s.sp + 1)).sp + 1))
        (spMod s.part (((s.setSp (s.sp + 1)).setSp ((s.setSp (s.sp + 1)).sp + 1)).sp + 1)) = some l := hl
    have hval : e.extractLsb' 0 6 ++ x ++ l = a := by
      apply BitVec.eq_of_toNat_eq
      rw [toNat_append_eq, toNat_append_eq, BitVec.extractLsb'_toNat, ha, Nat.shiftRight_zero]
      omega
    simp only [State.pop8_plain he, State.pop8_plain hx', State.pop8_plain hl', Except.bind, hval]
    exact ⟨rfl, trivial⟩

/-- Settles O42: both returns pop the address and jump there, RETI sets I and the delay as well. -/
theorem returnsPopTheAddress : Obligations.ReturnsPopTheAddress := by
  intro s a h
  obtain ⟨hpop, hmod⟩ := State.popPc_of_poppable h
  have houtcome : ∀ sr dl, returnOutcome a s ({ s with
      sp := spUp s.part s.sp (retBytes s.part), sreg := sr, irqDelay := dl }.jump a) := fun sr dl =>
    ⟨hmod, rfl, keepsRegs_of rfl, keepsMemory_of rfl rfl rfl rfl, ⟨rfl, rfl, rfl, rfl, rfl⟩, ⟨rfl, rfl, rfl⟩, rfl, rfl⟩
  have hbit := fun b => getLsbD_sregWithBit s.sreg 7 b true
  constructor
  · refine ⟨_, ?_, houtcome s.sreg s.irqDelay, keepsFlags_of rfl, rfl⟩
    change orFault (s.popPc.bind _) = _
    rw [hpop]
    rfl
  · refine ⟨_, ?_, houtcome (sregWithBit s.sreg 7 true) .set, hbit 7, fun b hb => ?_, rfl⟩
    · change orFault s.leaveInterrupt = _
      rw [State.leaveInterrupt, hpop]
      rfl
    · exact (hbit b).trans (if_neg (by simpa using hb))

-- A return behind its call (R67, R259).

/-- An SP in its range is its own reduction (R29, R74). -/
theorem spMod_of_lt {p : Part} {sp : Word} (h : sp.toNat < spSpan p) : spMod p sp = sp := by
  unfold spSpan at h
  unfold spMod
  split
  · rfl
  · rename_i hw
    simp only [hw] at h
    apply BitVec.eq_of_toNat_eq
    simp only [BitVec.toNat_setWidth, BitVec.extractLsb'_toNat, Nat.shiftRight_zero]
    omega

/-- Stepping up from a reduced SP is stepping up from what it reduces. -/
theorem spMod_spMod_add (p : Part) (a b : Word) : spMod p (spMod p a + b) = spMod p (a + b) := by
  unfold spMod
  split
  · rfl
  · apply BitVec.eq_of_toNat_eq
    simp only [BitVec.toNat_setWidth, BitVec.extractLsb'_toNat, Nat.shiftRight_zero, BitVec.toNat_add]
    omega

/-- As many pops as pushes put SP back by as much, for an SP in its range. -/
theorem spUp_spDown {p : Part} {sp : Word} (h : sp.toNat < spSpan p) (j k : Nat) :
    spUp p (spDown p sp (k + j)) j = spDown p sp k := by
  have hred : ∀ k, spMod p (spDown p sp k) = spDown p sp k := by
    intro k
    cases k with
    | zero => exact spMod_of_lt h
    | succ k => exact spMod_spMod p _
  induction j generalizing k with
  | zero => rfl
  | succ j ih =>
    have hsub : ∀ x : Word, x - 1 + 1 = x := fun x => by simp
    rw [spUp, show k + (j + 1) = (k + 1) + j by omega, ih, spDown, spMod_spMod_add, hsub, hred]

/-- The return address a push left in SRAM can be popped by a state with the same part, SRAM and SP. -/
theorem poppable_of_pushedAddress {s t u : State} {a : PcWord} (hsp : s.sp.toNat < spSpan s.part)
    (hroom : stackRoom s (retBytes s.part)) (hpushed : pushedAddress a s t) (hpart : u.part = s.part)
    (husp : u.sp = t.sp) (husram : u.sram = t.sram) (ha : pcMod s.part a = a) : poppable a u := by
  obtain ⟨hbyte0, hbyte1, hbyte2, htsp⟩ := hpushed
  have hplain : ∀ k < retBytes s.part, ∀ v, t.sramByte (spDown s.part s.sp k).toNat = some v →
      plainByte u (spUp u.part u.sp (retBytes s.part - k)) = some v := by
    intro k hk v hv
    have hplace := spUp_spDown hsp (retBytes s.part - k) k
    rw [Nat.add_sub_cancel' (by omega)] at hplace
    rw [hpart, husp, htsp, hplace, plainByte, hpart, hroom k hk]
    exact (State.sramByte_congr husram _).trans hv
  have halt := a.isLt
  unfold poppable
  rw [hpart] at hplain ⊢
  cases hw : s.part.pcWidth with
  | bits16 =>
    simp only [retBytes, hw] at hplain
    refine ⟨_, _, hplain 1 (by omega) _ hbyte1, hplain 0 (by omega) _ hbyte0, ?_⟩
    have hlt := congrArg BitVec.toNat ha
    simp only [pcMod, hw, BitVec.toNat_setWidth, BitVec.extractLsb'_toNat, Nat.shiftRight_zero] at hlt
    simp only [BitVec.toNat_ofNat]
    omega
  | bits22 =>
    simp only [retBytes, hw] at hplain
    refine ⟨_, _, _, hplain 2 (by omega) _ (hbyte2 hw), hplain 1 (by omega) _ hbyte1, hplain 0 (by omega) _ hbyte0, ?_⟩
    simp only [BitVec.toNat_ofNat]
    omega

/-- Settles O43: the address the call pushed is the one RET pops, and as many pops as pushes restore SP. -/
theorem returnContinuesBehindTheCall : Obligations.ReturnContinuesBehindTheCall := by
  intro k s t u hroom hsp hcall hpart husp husram
  obtain ⟨t', ht', hout⟩ := State.call_sram 1 (s.target12 k) hroom
  obtain rfl : t' = t := Except.ok.inj (ht'.symm.trans (orFault_next.1 hcall))
  obtain ⟨-, hpushed, -, -, -, -, -, ⟨htpart, -⟩, -⟩ := hout
  have hupart : u.part = s.part := hpart.trans htpart
  have hpop := poppable_of_pushedAddress hsp hroom hpushed hupart husp husram (pcMod_pcMod _ _)
  obtain ⟨⟨v, hv, ⟨hvpc, hvsp, -⟩, -⟩, -⟩ := returnsPopTheAddress u _ hpop
  obtain ⟨-, -, -, htsp⟩ := hpushed
  refine ⟨v, hv, hvpc, ?_⟩
  have hback := spUp_spDown hsp (retBytes s.part) 0
  rw [Nat.zero_add] at hback
  rw [hvsp, hupart, husp, htsp, hback, spDown]

end Sys2Proof.Machine
end

section
/-! SUPPORT. The access of an SFR by the kind the part gives it, and the read-modify-write of SBI and CBI on plain
storage (O37) and on flags (O38). -/

namespace Sys2Proof.Machine

section

variable {s u w : State} {d : Reg} {n : Nat} {v : Byte}

-- The access of an SFR that is not reached as an architectural register, by its kind (R63, R71, R72).

theorem State.ioRead_storage (hc : coreSfrAt s.part n = none) (hk : sfrKindAt s.part n = some .storage) :
    s.ioRead n = .ok (s.sfrByte n, s.observe (.read n (s.sfrByte n))) := by
  simp only [State.ioRead, hc, hk]

theorem State.ioWrite_storage (hc : coreSfrAt s.part n = none) (hk : sfrKindAt s.part n = some .storage) (v : Byte) :
    s.ioWrite n v = .ok ((s.setSfrByte n v).observe (.write n v)) := by
  simp only [State.ioWrite, hc, hk]

theorem State.ioRead_pins (hc : coreSfrAt s.part n = none) (hk : sfrKindAt s.part n = some .pins) :
    s.ioRead n = .ok (Config.pinByte s.draws, (s.observe (.read n (Config.pinByte s.draws))).drawn) := by
  simp only [State.ioRead, hc, hk]

theorem State.ioWrite_pins (hc : coreSfrAt s.part n = none) (hk : sfrKindAt s.part n = some .pins) (v : Byte) :
    s.ioWrite n v = .ok (s.observe (.write n v)) := by
  simp only [State.ioWrite, hc, hk]

/-- The flags a read of a status register gives: those it holds and those its device has newly raised. -/
def State.flagsRead (s : State) (n : Nat) : Byte := s.sfrView n ||| Config.flagsRaised s.draws

theorem State.ioRead_flags (hc : coreSfrAt s.part n = none) (hk : sfrKindAt s.part n = some .flags) :
    s.ioRead n = .ok (s.flagsRead n,
      ((s.setSfrView n (s.flagsRead n)).observe (.read n (s.flagsRead n))).drawn) := by
  simp only [State.ioRead, hc, hk, State.flagsRead]

theorem State.ioWrite_flags (hc : coreSfrAt s.part n = none) (hk : sfrKindAt s.part n = some .flags) (v : Byte) :
    s.ioWrite n v = .ok (((s.setSfrView n (s.sfrView n &&& ~~~v)).withdraw n v).observe (.write n v)) := by
  simp only [State.ioWrite, hc, hk]

theorem State.ioRead_described {b : SfrBehaviour} (hc : coreSfrAt s.part n = none)
    (hk : sfrKindAt s.part n = some (.described b)) :
    s.ioRead n = .ok (s.ioValue 0#8 b.readValue,
      ((s.applyEffects 0#8 b.onRead).observe (.read n (s.ioValue 0#8 b.readValue))).drawn) := by
  simp only [State.ioRead, hc, hk]

theorem State.ioWrite_described {b : SfrBehaviour} (hc : coreSfrAt s.part n = none)
    (hk : sfrKindAt s.part n = some (.described b)) (v : Byte) :
    s.ioWrite n v = .ok (((s.applyEffects v b.onWrite).observe (.write n v)).drawn) := by
  simp only [State.ioWrite, hc, hk]

/-- The addresses of a canonical memory rise. -/
theorem Memory.rising_of_wf {dflt : Option Byte} {m : Memory} (h : Memory.wf dflt m = true) :
    Memory.rising m = true := (Bool.and_eq_true_iff.1 h).1

-- What a write of an SFR in the SFR memory leaves alone.

/-- Two states that differ at most in the SFR n, the pending requests, pc, the accesses seen and the draws. -/
structure AltersSfr (n : Nat) (s t : State) : Prop where
  sfrs : KeepsSfrs [n] s t
  part : t.part = s.part
  regs : t.regs = s.regs
  sreg : t.sreg = s.sreg
  sp : t.sp = s.sp
  control : KeepsControl s t
  sram : t.sram = s.sram
  prog : t.prog = s.prog
  irqDelay : t.irqDelay = s.irqDelay
  sleeping : t.sleeping = s.sleeping
  stopped : t.stopped = s.stopped
  wdtCount : t.wdtCount = s.wdtCount

theorem AltersSfr.refl (n : Nat) (s : State) : AltersSfr n s s where
  sfrs _ _ := rfl
  part := rfl
  regs := rfl
  sreg := rfl
  sp := rfl
  control := ⟨rfl, rfl, rfl⟩
  sram := rfl
  prog := rfl
  irqDelay := rfl
  sleeping := rfl
  stopped := rfl
  wdtCount := rfl

theorem AltersSfr.trans (h : AltersSfr n s u) (h' : AltersSfr n u w) : AltersSfr n s w where
  sfrs a ha := (h'.sfrs a ha).trans (h.sfrs a ha)
  part := h'.part.trans h.part
  regs := h'.regs.trans h.regs
  sreg := h'.sreg.trans h.sreg
  sp := h'.sp.trans h.sp
  control := ⟨h'.control.1.trans h.control.1, h'.control.2.1.trans h.control.2.1, h'.control.2.2.trans h.control.2.2⟩
  sram := h'.sram.trans h.sram
  prog := h'.prog.trans h.prog
  irqDelay := h'.irqDelay.trans h.irqDelay
  sleeping := h'.sleeping.trans h.sleeping
  stopped := h'.stopped.trans h.stopped
  wdtCount := h'.wdtCount.trans h.wdtCount

/-- A new byte of the SFR n. -/
theorem altersSfr_setSfrByte (s : State) (n : Nat) (v : Byte) : AltersSfr n s (s.setSfrByte n v) :=
  { AltersSfr.refl n s with sfrs := fun _ ha => State.sfrByte_setSfrByte_ne (by simpa using ha) }

/-- Requests, pc, accesses and draws do not count. -/
theorem AltersSfr.advance (h : AltersSfr n s u) (k : PcWord) : AltersSfr n s (u.advance k) := { h with }
theorem AltersSfr.observe (h : AltersSfr n s u) (e : IoEvent) : AltersSfr n s (u.observe e) := { h with }
theorem AltersSfr.drawn (h : AltersSfr n s u) : AltersSfr n s u.drawn := { h with }
theorem AltersSfr.withdraw (h : AltersSfr n s u) (a : Nat) (v : Byte) : AltersSfr n s (u.withdraw a v) := { h with }

/-- A write of plain storage gives the SFR the byte written. -/
theorem State.ioWrite_storage_sfr (v : Byte) (hwf : Memory.wf (some 0#8) s.sfr = true)
    (hc : coreSfrAt s.part n = none) (hk : sfrKindAt s.part n = some .storage) :
    ∃ u, s.ioWrite n v = .ok u ∧ u.sfrByte n = v ∧ AltersSfr n s u ∧ u.irqPending = s.irqPending ∧
      u.ioLog = s.ioLog ++ [.write n v] ∧ u.draws = s.draws :=
  ⟨_, State.ioWrite_storage hc hk v, State.sfrByte_setSfrByte_self (Memory.rising_of_wf hwf),
    (altersSfr_setSfrByte s n v).observe _, rfl, rfl, rfl⟩

/-- A status register in the SFR memory reads as `flagsRead`, and holds that byte then. -/
theorem State.ioRead_flags_sfr (hwf : Memory.wf (some 0#8) s.sfr = true) (hc : coreSfrAt s.part n = none)
    (hk : sfrKindAt s.part n = some .flags) (ha : archSfrAt s.part n = none) :
    ∃ u, s.ioRead n = .ok (s.flagsRead n, u) ∧ u.sfrByte n = s.flagsRead n ∧ AltersSfr n s u ∧
      Memory.wf (some 0#8) u.sfr = true ∧ u.ioLog = s.ioLog ++ [.read n (s.flagsRead n)] ∧
      u.irqPending = s.irqPending := by
  have hread := State.ioRead_flags hc hk
  rw [State.setSfrView_eq ha] at hread
  exact ⟨_, hread, State.sfrByte_setSfrByte_self (Memory.rising_of_wf hwf),
    ((altersSfr_setSfrByte s n _).observe _).drawn, Memory.write_wf hwf, rfl, rfl⟩

/-- A write of a status register in the SFR memory clears the flags written 1. -/
theorem State.ioWrite_flags_sfr (v : Byte) (hwf : Memory.wf (some 0#8) s.sfr = true) (hc : coreSfrAt s.part n = none)
    (hk : sfrKindAt s.part n = some .flags) (ha : archSfrAt s.part n = none) :
    ∃ u, s.ioWrite n v = .ok u ∧ u.sfrByte n = s.sfrByte n &&& ~~~v ∧ AltersSfr n s u ∧
      u.irqPending = (s.withdraw n v).irqPending ∧ u.ioLog = s.ioLog ++ [.write n v] ∧ u.draws = s.draws := by
  have hwrite := State.ioWrite_flags hc hk v
  rw [State.sfrView_eq ha, State.setSfrView_eq ha] at hwrite
  exact ⟨_, hwrite, State.sfrByte_setSfrByte_self (Memory.rising_of_wf hwf),
    ((altersSfr_setSfrByte s n _).withdraw n v).observe _, rfl, rfl, rfl⟩

-- SBI and CBI (R216, R217, R459).

/-- A read-modify-write whose read and write complete. -/
theorem State.modifySfr_of {a : BitVec 5} {b : BitVec 3} {x : Bool} (hr : s.ioRead (sfrAddr a.toNat) = .ok (v, u))
    (hw : u.ioWrite (sfrAddr a.toNat) (byteWithBit v b x) = .ok w) :
    orFault (s.modifySfr a b x) = .next (w.advance 1) := by
  rw [State.modifySfr, hr]
  change orFault ((u.ioWrite _ _).bind _) = _
  rw [hw]
  rfl

/-- A read-modify-write of an SFR of plain storage changes one bit of it; the read and the write are seen outside. -/
theorem modifySfr_storage {a : BitVec 5} (b : BitVec 3) (x : Bool) (hwf : Memory.wf (some 0#8) s.sfr = true)
    (hc : coreSfrAt s.part (sfrAddr a.toNat) = none) (hk : sfrKindAt s.part (sfrAddr a.toNat) = some .storage) :
    ∃ t, orFault (s.modifySfr a b x) = .next t ∧ (t.sfrByte (sfrAddr a.toNat)).getLsbD b.toNat = x ∧
      (∀ n < 8, n ≠ b.toNat →
        (t.sfrByte (sfrAddr a.toNat)).getLsbD n = (s.sfrByte (sfrAddr a.toNat)).getLsbD n) ∧
      t.ioLog = s.ioLog ++ [.read (sfrAddr a.toNat) (s.sfrByte (sfrAddr a.toNat))] ++
        [.write (sfrAddr a.toNat) (t.sfrByte (sfrAddr a.toNat))] ∧
      KeepsSfrs [sfrAddr a.toNat] s t ∧ KeepsSram [] s t ∧ KeepsProgram s t ∧ KeepsRegs [] s t ∧ KeepsFlags [] s t ∧
      KeepsHidden s t ∧ KeepsControl s t ∧ t.sp = s.sp ∧ t.irqDelay = s.irqDelay ∧ t.draws = s.draws := by
  let u := s.observe (.read (sfrAddr a.toNat) (s.sfrByte (sfrAddr a.toNat)))
  obtain ⟨w, hwrite, hbyte, huw, hpend, hlog, hdraws⟩ := State.ioWrite_storage_sfr (s := u)
    (byteWithBit (s.sfrByte (sfrAddr a.toNat)) b x) hwf hc hk
  have hheld : (w.advance 1).sfrByte (sfrAddr a.toNat) = _ := hbyte
  have hbit := getLsbD_byteWithBit (s.sfrByte (sfrAddr a.toNat)) b x
  have h : AltersSfr (sfrAddr a.toNat) s (w.advance 1) := (((AltersSfr.refl _ s).observe _).trans huw).advance 1
  refine ⟨w.advance 1, State.modifySfr_of (State.ioRead_storage hc hk) hwrite, ?_, fun k hk8 hkb => ?_, ?_, h.sfrs,
    keepsSram_of h.sram _, State.imageByte_congr h.part h.prog, keepsRegs_of h.regs, keepsFlags_of h.sreg,
    ⟨h.part, hpend, h.sleeping, h.stopped, h.wdtCount⟩, h.control, h.sp, h.irqDelay, hdraws⟩
  · rw [hheld, hbit _ b.isLt, if_pos rfl]
  · rw [hheld, hbit k hk8, if_neg hkb]
  · rw [hheld]
    exact hlog

/-- The flags left where v is read and written back with bit b replaced: bit b, where it was set and is written 0. -/
theorem getLsbD_flagsLeft (v : Byte) (b : BitVec 3) (x : Bool) {k : Nat} (hk : k < 8) :
    (v &&& ~~~byteWithBit v b x).getLsbD k = (decide (k = b.toNat) && !x && v.getLsbD k) := by
  simp only [BitVec.getLsbD_and, BitVec.getLsbD_not, hk, getLsbD_byteWithBit, decide_true, Bool.true_and]
  by_cases hkb : k = b.toNat
  · simp [hkb, Bool.and_comm]
  · simp [hkb]

/-- No flag is left where the bit is written 1. -/
theorem flagsLeft_true (v : Byte) (b : BitVec 3) : v &&& ~~~byteWithBit v b true = 0 := by
  apply BitVec.eq_of_getLsbD_eq
  intro k hk
  simp [getLsbD_flagsLeft v b true hk]

/-- A read-modify-write of a status register in the SFR memory. -/
theorem modifySfr_flags {a : BitVec 5} (b : BitVec 3) (x : Bool) (hwf : Memory.wf (some 0#8) s.sfr = true)
    (hc : coreSfrAt s.part (sfrAddr a.toNat) = none) (hk : sfrKindAt s.part (sfrAddr a.toNat) = some .flags)
    (ha : archSfrAt s.part (sfrAddr a.toNat) = none) (hv : v = s.flagsRead (sfrAddr a.toNat)) :
    ∃ t, orFault (s.modifySfr a b x) = .next t ∧ t.sfrByte (sfrAddr a.toNat) = v &&& ~~~byteWithBit v b x ∧
      KeepsSfrs [sfrAddr a.toNat] s t ∧ KeepsRegs [] s t ∧ KeepsFlags [] s t ∧ KeepsSram [] s t ∧ KeepsProgram s t ∧
      KeepsControl s t ∧ t.sp = s.sp := by
  obtain ⟨u, hread, hheld, hru, hwf', -⟩ := State.ioRead_flags_sfr hwf hc hk ha
  rw [← hv] at hread hheld
  rw [← hru.part] at hc hk ha
  obtain ⟨w, hwrite, hleft, huw, -⟩ := State.ioWrite_flags_sfr (byteWithBit v b x) hwf' hc hk ha
  have h := (hru.trans huw).advance 1
  exact ⟨w.advance 1, State.modifySfr_of hread hwrite, hleft.trans (by rw [hheld]), h.sfrs, keepsRegs_of h.regs,
    keepsFlags_of h.sreg, keepsSram_of h.sram _, State.imageByte_congr h.part h.prog, h.control, h.sp⟩

/-- A read-modify-write of MCUCR as a status register. -/
theorem modifySfr_mcucr_flags {a : BitVec 5} (b : BitVec 3) (x : Bool)
    (hc : coreSfrAt s.part (sfrAddr a.toNat) = none) (hk : sfrKindAt s.part (sfrAddr a.toNat) = some .flags)
    (ha : archSfrAt s.part (sfrAddr a.toNat) = some .mcucr) (hv : v = (s.mcucr ||| Config.flagsRaised s.draws)) :
    ∃ t, orFault (s.modifySfr a b x) = .next t ∧ t.mcucr = v &&& ~~~byteWithBit v b x ∧ t.rampz = s.rampz ∧
      t.eind = s.eind ∧ KeepsMemory s t ∧ KeepsRegs [] s t ∧ KeepsFlags [] s t ∧ t.sp = s.sp := by
  have hview : ∀ t : State, t.part = s.part → t.sfrView (sfrAddr a.toNat) = t.mcucr := by
    intro t ht
    rw [State.sfrView, ht, ha]
    rfl
  have hset : ∀ (t : State) (y : Byte), t.part = s.part → t.setSfrView (sfrAddr a.toNat) y = { t with mcucr := y } := by
    intro t y ht
    simp only [State.setSfrView, ht, ha, State.coreWrite]
  have hread := State.ioRead_flags hc hk
  rw [State.flagsRead, hview s rfl, ← hv, hset s v rfl] at hread
  let u := (({ s with mcucr := v } : State).observe (.read (sfrAddr a.toNat) v)).drawn
  have hwrite := State.ioWrite_flags (s := u) hc hk (byteWithBit v b x)
  rw [hview u rfl, hset u _ rfl] at hwrite
  exact ⟨_, State.modifySfr_of hread hwrite, by simp [u], by simp [u], by simp [u],
    keepsMemory_of (by simp [u]) (by simp [u]) (by simp [u]) (by simp [u]), keepsRegs_of (by simp [u]),
    keepsFlags_of (by simp [u]), by simp [u]⟩

end

/-- Settles O37: SBI and CBI are the read-modify-write with 1 and with 0. -/
theorem sfrBitInstructionsReadThenWrite : Obligations.SfrBitInstructionsReadThenWrite := by
  intro a b s hwf hc hk
  exact ⟨modifySfr_storage b true hwf hc hk, modifySfr_storage b false hwf hc hk⟩

/-- Settles O38: the byte written back has a 1 at every flag read but the bit that CBI clears in it. -/
theorem sfrBitInstructionsClearOtherFlags : Obligations.SfrBitInstructionsClearOtherFlags := by
  intro a b s hwf hc hk
  have hleft : ∀ v : Byte, ∀ n < 8, (v &&& ~~~byteWithBit v b false).getLsbD n =
      (decide (n = b.toNat) && v.getLsbD n) := fun v n hn => by
    simpa using getLsbD_flagsLeft v b false hn
  refine ⟨fun ha => ⟨?_, ?_⟩, fun ha => ⟨?_, ?_⟩⟩
  · obtain ⟨t, ht, hbyte, hkeeps⟩ := modifySfr_flags b true hwf hc hk ha rfl
    exact ⟨t, ht, hbyte.trans (flagsLeft_true _ b), hkeeps⟩
  · obtain ⟨t, ht, hbyte, hkeeps⟩ := modifySfr_flags b false hwf hc hk ha rfl
    rw [State.flagsRead, State.sfrView_eq ha] at hbyte
    exact ⟨t, _, ht, rfl, fun n hn => by rw [hbyte, hleft _ n hn], hkeeps⟩
  · obtain ⟨t, ht, hbyte, hkeeps⟩ := modifySfr_mcucr_flags b true hc hk ha rfl
    exact ⟨t, ht, hbyte.trans (flagsLeft_true _ b), hkeeps⟩
  · obtain ⟨t, ht, hbyte, hkeeps⟩ := modifySfr_mcucr_flags b false hc hk ha rfl
    exact ⟨t, ht, fun n hn => by rw [hbyte, hleft _ n hn], hkeeps⟩

end Sys2Proof.Machine
end

section
/-! SUPPORT. The effects of an access to a described SFR (R72), cell by cell: each cell keeps its value or gets that of
the last effect on it; and IN and OUT at an SFR of each kind (O58). -/

namespace Sys2Proof.Machine

section

variable {s t : State} {a b : Nat} {v : Byte}

-- An architectural register behind an SFR stands at one address (R34).

/-- The data-space address at which an architectural register stands, if it stands at any. -/
def CoreSfr.address (p : Part) : CoreSfr → Option Nat
  | .sreg => some 0x5F
  | .sph => some 0x5E
  | .spl => some 0x5D
  | .eind => some 0x5C
  | .rampz => some 0x5B
  | .mcucr => p.mcucrAddr

theorem address_of_archSfrAt {p : Part} {c : CoreSfr} (h : archSfrAt p a = some c) : c.address p = some a := by
  unfold archSfrAt sfrAddr at h
  repeat' split at h
  all_goals cases h
  · simp [CoreSfr.address, *]
  · simp [CoreSfr.address, *]
  · simp [CoreSfr.address, *]
  · simp [CoreSfr.address, *]
  · simp [CoreSfr.address, *]
  · assumption

/-- A write of one architectural register leaves the others as SFRs read, but the two bytes of SP each other. -/
theorem State.coreRead_coreWrite_ne {c e : CoreSfr} (h : c ≠ e) (hsph : c ≠ .sph) (hspl : c ≠ .spl) :
    (s.coreWrite e v).coreRead c = s.coreRead c := by
  cases c with
  | sph => exact absurd rfl hsph
  | spl => exact absurd rfl hspl
  | sreg =>
    cases e with
    | sreg => exact absurd rfl h
    | _ => simp [State.coreRead, State.coreWrite]
  | eind =>
    cases e with
    | eind => exact absurd rfl h
    | _ => simp [State.coreRead, State.coreWrite]
  | rampz =>
    cases e with
    | rampz => exact absurd rfl h
    | _ => simp [State.coreRead, State.coreWrite]
  | mcucr =>
    cases e with
    | mcucr => exact absurd rfl h
    | _ => simp [State.coreRead, State.coreWrite]

/-- An architectural register reads as it was written, but for the two bytes of SP. -/
theorem State.coreRead_coreWrite_self {c : CoreSfr} (hsph : c ≠ .sph) (hspl : c ≠ .spl) :
    (s.coreWrite c v).coreRead c = v := by
  cases c with
  | sph => exact absurd rfl hsph
  | spl => exact absurd rfl hspl
  | _ => simp [State.coreRead, State.coreWrite]

/-- Only the addresses of its two bytes reach SP. -/
theorem ne_sp_of_address {p : Part} {c : CoreSfr} (h : c.address p = some a) (hlow : a ≠ 0x5D) (hhigh : a ≠ 0x5E) :
    c ≠ .sph ∧ c ≠ .spl := by
  constructor
  · rintro rfl
    exact hhigh (Option.some.inj h).symm
  · rintro rfl
    exact hlow (Option.some.inj h).symm

/-- The byte of an SFR after it is changed. -/
theorem State.sfrView_setSfrView_self (hrise : Memory.rising s.sfr = true) (hlow : a ≠ 0x5D) (hhigh : a ≠ 0x5E) :
    (s.setSfrView a v).sfrView a = v := by
  rw [State.sfrView, State.setSfrView_part]
  unfold State.setSfrView
  cases ha : archSfrAt s.part a with
  | none => exact State.sfrByte_setSfrByte_self hrise
  | some c =>
    obtain ⟨hsph, hspl⟩ := ne_sp_of_address (address_of_archSfrAt ha) hlow hhigh
    exact State.coreRead_coreWrite_self hsph hspl

/-- The byte of an SFR, but for the two of SP, after another is changed. -/
theorem State.sfrView_setSfrView_ne (hne : a ≠ b) (hlow : a ≠ 0x5D) (hhigh : a ≠ 0x5E) :
    (s.setSfrView b v).sfrView a = s.sfrView a := by
  rw [State.sfrView, State.sfrView, State.setSfrView_part]
  unfold State.setSfrView
  cases ha : archSfrAt s.part a with
  | none =>
    cases hb : archSfrAt s.part b with
    | none => exact State.sfrByte_setSfrByte_ne hne
    | some e => exact State.sfrByte_congr (State.coreWrite_sfr s e v) a
  | some c =>
    obtain ⟨hsph, hspl⟩ := ne_sp_of_address (address_of_archSfrAt ha) hlow hhigh
    cases hb : archSfrAt s.part b with
    | none => cases c <;> rfl
    | some e =>
      refine State.coreRead_coreWrite_ne (fun hce => hne ?_) hsph hspl
      subst hce
      exact Option.some.inj ((address_of_archSfrAt ha).symm.trans (address_of_archSfrAt hb))

/-- SP changes only with one of its two bytes. -/
theorem State.setSfrView_sp (hlow : a ≠ 0x5D) (hhigh : a ≠ 0x5E) : (s.setSfrView a v).sp = s.sp := by
  unfold State.setSfrView
  cases ha : archSfrAt s.part a with
  | none => rfl
  | some c =>
    obtain ⟨hsph, hspl⟩ := ne_sp_of_address (address_of_archSfrAt ha) hlow hhigh
    cases c with
    | sph => exact absurd rfl hsph
    | spl => exact absurd rfl hspl
    | _ => simp [State.coreWrite]

/-- `irq_delay` changes with no SFR but SREG. -/
theorem State.setSfrView_irqDelay (hne : a ≠ 0x5F) : (s.setSfrView a v).irqDelay = s.irqDelay := by
  unfold State.setSfrView
  cases ha : archSfrAt s.part a with
  | none => rfl
  | some c =>
    cases c with
    | sreg => exact absurd (Option.some.inj (address_of_archSfrAt ha)).symm hne
    | _ => rfl

/-- A change of an SFR keeps the addresses of the SFR memory rising. -/
theorem State.setSfrView_rising (hrise : Memory.rising s.sfr = true) : Memory.rising (s.setSfrView a v).sfr = true := by
  unfold State.setSfrView
  split
  · simpa using hrise
  · exact Memory.write_rising hrise

-- One cell.

/-- Everything a change of a data-space cell can do. -/
theorem State.setCell_data_cases (s : State) (a : Word) (v : Byte) :
    (∃ d, dataPlace s.part a = .register d ∧ s.setCell (.data a) v = s.setReg d v) ∨
    (dataPlace s.part a = .sfr ∧ s.setCell (.data a) v = s.setSfrView a.toNat v) ∨
    (dataPlace s.part a = .sram ∧ s.setCell (.data a) v = { s with sram := Memory.write none s.sram a.toNat v }) ∨
    (dataPlace s.part a = .unimplemented ∧ s.setCell (.data a) v = s) := by
  simp only [State.setCell]
  cases dataPlace s.part a with
  | register d => exact .inl ⟨d, rfl, rfl⟩
  | sfr => exact .inr (.inl ⟨rfl, rfl⟩)
  | sram => exact .inr (.inr (.inl ⟨rfl, rfl⟩))
  | unimplemented => exact .inr (.inr (.inr ⟨rfl, rfl⟩))

/-- The hidden state that a data-space cell leaves alone. -/
theorem State.setCell_data_hidden (s : State) (a : Word) (v : Byte) :
    (s.setCell (.data a) v).sleeping = s.sleeping ∧ (s.setCell (.data a) v).irqPending = s.irqPending ∧
      (s.setCell (.data a) v).wdtCount = s.wdtCount := by
  rcases State.setCell_data_cases s a v with ⟨d, -, h⟩ | ⟨-, h⟩ | ⟨-, h⟩ | ⟨-, h⟩ <;> rw [h] <;> simp

/-- A data-space cell, but for the two bytes of SP, after it is changed. -/
theorem State.cellByte_setCell_self {a : Word} (hrise : Memory.rising s.sfr = true)
    (hplace : dataPlace s.part a ≠ .unimplemented) (hlow : a ≠ 0x5D) (hhigh : a ≠ 0x5E) :
    (s.setCell (.data a) v).cellByte (.data a) = v := by
  have hpart := (State.setCell_frame s (.data a) v).1
  rw [State.cellByte, hpart]
  rcases State.setCell_data_cases s a v with ⟨d, hp, h⟩ | ⟨hp, h⟩ | ⟨hp, h⟩ | ⟨hp, -⟩
  · rw [h]
    simp [hp]
  · simp only [h, hp]
    exact State.sfrView_setSfrView_self hrise (fun e => hlow (BitVec.eq_of_toNat_eq e))
      (fun e => hhigh (BitVec.eq_of_toNat_eq e))
  · simp [h, hp, State.sramByte, Memory.read_write_self_none]
  · exact absurd hp hplace

/-- The bytes of a data-space cell in states that agree where it stands. -/
theorem State.cellByte_data_congr {a : Word} (hpart : t.part = s.part)
    (hreg : ∀ d, dataPlace s.part a = .register d → t.reg d = s.reg d)
    (hsfr : dataPlace s.part a = .sfr → t.sfrView a.toNat = s.sfrView a.toNat)
    (hsram : t.sramByte a.toNat = s.sramByte a.toNat) : t.cellByte (.data a) = s.cellByte (.data a) := by
  rw [State.cellByte, State.cellByte, hpart, hsram]
  cases hp : dataPlace s.part a with
  | register d => exact hreg d hp
  | sfr => exact hsfr hp
  | sram => rfl
  | unimplemented => rfl

/-- A byte of SRAM after another cell is changed. -/
theorem State.sramByte_setCell_ne {a : Word} {c : IoCell} (hne : c ≠ .data a) :
    (s.setCell c v).sramByte a.toNat = s.sramByte a.toNat := by
  cases c with
  | data b =>
    rcases State.setCell_data_cases s b v with ⟨d, -, h⟩ | ⟨-, h⟩ | ⟨-, h⟩ | ⟨-, h⟩ <;> rw [h]
    · rfl
    · exact State.sramByte_congr (State.setSfrView_sram s _ v) _
    · refine Memory.read_write_ne fun e => hne ?_
      rw [BitVec.eq_of_toNat_eq e]
  | _ => rfl

/-- A data-space cell, but for the two bytes of SP, after another cell is changed. -/
theorem State.cellByte_setCell_ne {a : Word} {c : IoCell} (hne : c ≠ .data a) (hlow : a ≠ 0x5D) (hhigh : a ≠ 0x5E) :
    (s.setCell c v).cellByte (.data a) = s.cellByte (.data a) := by
  refine State.cellByte_data_congr (State.setCell_frame s c v).1 (fun e he => ?_) (fun _ => ?_)
    (State.sramByte_setCell_ne hne)
  · obtain ⟨ha, rfl⟩ := dataPlace_register he
    cases c with
    | data b =>
      rcases State.setCell_data_cases s b v with ⟨d, hp, h⟩ | ⟨-, h⟩ | ⟨-, h⟩ | ⟨-, h⟩ <;> rw [h]
      · obtain ⟨hb, rfl⟩ := dataPlace_register hp
        have hreg : a.setWidth 5 ≠ b.setWidth 5 := fun e => hne (by
          rw [← setWidth_reg_of_lt ha, e, setWidth_reg_of_lt hb])
        rw [State.reg_setReg, if_neg hreg]
      · exact State.reg_setSfrView s _ v _
      · rfl
    | _ => rfl
  · have hview : ∀ t : State, t.part = s.part → t.sreg = s.sreg → t.sp = s.sp → t.eind = s.eind →
        t.rampz = s.rampz → t.mcucr = s.mcucr → t.sfr = s.sfr → t.sfrView a.toNat = s.sfrView a.toNat := by
      intro t hpart hsreg hsp heind hrampz hmcucr hsfr
      rw [State.sfrView, State.sfrView, hpart, State.sfrByte_congr hsfr]
      split
      · rename_i c _
        cases c <;> simp [State.coreRead, *]
      · rfl
    cases c with
    | data b =>
      rcases State.setCell_data_cases s b v with ⟨d, -, h⟩ | ⟨-, h⟩ | ⟨-, h⟩ | ⟨-, h⟩ <;> rw [h]
      · exact hview _ rfl rfl rfl rfl rfl rfl rfl
      · refine State.sfrView_setSfrView_ne (fun e => hne ?_) (fun e => hlow (BitVec.eq_of_toNat_eq e))
          (fun e => hhigh (BitVec.eq_of_toNat_eq e))
        rw [BitVec.eq_of_toNat_eq e]
      · exact hview _ rfl rfl rfl rfl rfl rfl rfl
    | _ => exact hview _ rfl rfl rfl rfl rfl rfl rfl

-- The effects of an access (R72).

/-- What holds between the effects of an access that began in s: the part is the same, the addresses of the SFR memory
rise, and a part without a watchdog counts nothing. -/
structure DuringAccess (s t : State) : Prop where
  part : t.part = s.part
  rising : Memory.rising t.sfr = true
  count : s.part.watchdog.isSome = false → t.wdtCount = s.wdtCount

/-- Every effect keeps what holds between them. -/
theorem DuringAccess.setCell (h : DuringAccess s t) (c : IoCell) (v : Byte) : DuringAccess s (t.setCell c v) := by
  obtain ⟨hpart, hrise, hcount⟩ := h
  refine ⟨(State.setCell_frame t c v).1.trans hpart, ?_, ?_⟩
  · cases c with
    | data a =>
      rcases State.setCell_data_cases t a v with ⟨d, -, h⟩ | ⟨-, h⟩ | ⟨-, h⟩ | ⟨-, h⟩ <;> rw [h]
      · exact hrise
      · exact State.setSfrView_rising hrise
      · exact hrise
      · exact hrise
    | _ => exact hrise
  · intro hnone
    cases c with
    | data a => exact (State.setCell_data_hidden t a v).2.2.trans (hcount hnone)
    | watchdog =>
      rw [← hcount hnone]
      simp [State.setCell, hpart, hnone]
    | _ => exact hcount hnone

/-- One more effect is one more change of a cell. -/
theorem State.applyEffects_append (s : State) (w : Byte) (es : List IoEffect) (e : IoEffect) :
    s.applyEffects w (es ++ [e]) = (s.applyEffects w es).setCell e.cell (s.ioValue w e.value) := by
  simp [State.applyEffects, State.setCells]

/-- The last value of a cell after one more effect. -/
theorem lastValue_append (w : Byte) (es : List IoEffect) (e : IoEffect) (s : State) (c : IoCell) :
    lastValue w (es ++ [e]) s c = if e.cell = c then some (s.ioValue w e.value) else lastValue w es s c := by
  by_cases h : e.cell = c <;> simp [lastValue, h]

/-- What a reading of the state gives after the effects of an access: what the last effect on its cell c puts there, or
the reading before; `others` are cells that would change the reading as well, and that no effect is on. -/
theorem get_applyEffects {α : Sort*} {get : State → α} {put : Byte → α} {c : IoCell} {others : List IoCell}
    {es : List IoEffect} {w : Byte} (hrise : Memory.rising s.sfr = true)
    (hit : c ∉ others → ∀ t v, DuringAccess s t → get (t.setCell c v) = put v)
    (miss : ∀ t c' v, DuringAccess s t → c' ≠ c → c' ∉ others → get (t.setCell c' v) = get t)
    (hothers : ∀ c' ∈ others, lastValue w es s c' = none) :
    get (s.applyEffects w es) = (lastValue w es s c).elim (get s) put ∧ DuringAccess s (s.applyEffects w es) := by
  induction es using List.reverseRecOn with
  | nil => exact ⟨rfl, rfl, hrise, fun _ => rfl⟩
  | append_singleton es e ih =>
    simp only [lastValue_append] at hothers ⊢
    have hfree : e.cell ∉ others := fun hmem => by simpa using hothers _ hmem
    have hbefore : ∀ c' ∈ others, lastValue w es s c' = none := by
      intro c' hc'
      have hne : e.cell ≠ c' := fun h => hfree (h ▸ hc')
      simpa [hne] using hothers c' hc'
    obtain ⟨hget, hduring⟩ := ih hbefore
    rw [State.applyEffects_append]
    refine ⟨?_, hduring.setCell _ _⟩
    by_cases hc : e.cell = c
    · subst hc
      rw [if_pos rfl]
      exact hit hfree _ _ hduring
    · rw [if_neg hc, miss _ _ _ hduring hc hfree]
      exact hget

section

variable (w : Byte) (es : List IoEffect)

/-- A data-space cell, but for the two bytes of SP, after the effects. -/
theorem State.cellByte_applyEffects {a : Word} (hrise : Memory.rising s.sfr = true)
    (hplace : dataPlace s.part a ≠ .unimplemented) (hlow : a ≠ 0x5D) (hhigh : a ≠ 0x5E) :
    (s.applyEffects w es).cellByte (.data a) = (lastValue w es s (.data a)).getD (s.cellByte (.data a)) := by
  refine (get_applyEffects (get := fun t => t.cellByte (.data a)) (put := id) (c := .data a) (others := []) hrise
    (fun _ t v ht => State.cellByte_setCell_self ht.rising (ht.part ▸ hplace) hlow hhigh)
    (fun t c v _ hne _ => State.cellByte_setCell_ne hne hlow hhigh) (by simp)).1.trans ?_
  cases lastValue w es s (.data a) <;> rfl

/-- A byte of SRAM that no effect is on. -/
theorem State.sramByte_applyEffects {a : Word} (hrise : Memory.rising s.sfr = true)
    (ha : lastValue w es s (.data a) = none) : (s.applyEffects w es).sramByte a.toNat = s.sramByte a.toNat := by
  have h := (get_applyEffects (get := fun t => t.sramByte a.toNat) (put := some) (c := .data a) (others := [.data a])
    (w := w) (es := es) hrise (by simp) (fun t c v _ hne _ => State.sramByte_setCell_ne hne) (by simpa using ha)).1
  rwa [ha] at h

/-- SP where no effect is on one of its bytes. -/
theorem State.sp_applyEffects (hrise : Memory.rising s.sfr = true) (hlow : lastValue w es s (.data 0x5D) = none)
    (hhigh : lastValue w es s (.data 0x5E) = none) : (s.applyEffects w es).sp = s.sp := by
  have h := (get_applyEffects (get := State.sp) (put := fun _ => s.sp) (c := .data 0x5D)
    (others := [.data 0x5D, .data 0x5E]) (w := w) (es := es) hrise (by simp) (fun t c v _ _ hc => ?_)
    (List.forall_mem_cons.2 ⟨hlow, List.forall_mem_cons.2 ⟨hhigh, by simp⟩⟩)).1
  · rwa [hlow] at h
  · cases c with
    | data b =>
      rcases State.setCell_data_cases t b v with ⟨d, -, h⟩ | ⟨-, h⟩ | ⟨-, h⟩ | ⟨-, h⟩ <;> rw [h]
      · rfl
      · simp only [List.mem_cons, IoCell.data.injEq, List.not_mem_nil, or_false, not_or] at hc
        exact State.setSfrView_sp (fun e => hc.1 (BitVec.eq_of_toNat_eq e)) (fun e => hc.2 (BitVec.eq_of_toNat_eq e))
    | _ => rfl

/-- `irq_delay` where no effect is on SREG. -/
theorem State.irqDelay_applyEffects (hrise : Memory.rising s.sfr = true)
    (hsreg : lastValue w es s (.data 0x5F) = none) :
    (s.applyEffects w es).irqDelay =
      (lastValue w es s .irqDelay).elim s.irqDelay (fun v => if v = 0 then .off else .set) := by
  refine (get_applyEffects (get := State.irqDelay) (put := fun v => if v = 0 then .off else .set) (c := .irqDelay)
    (others := [.data 0x5F]) hrise (fun _ t v _ => rfl) (fun t c v _ hne hc => ?_) (by simpa using hsreg)).1
  cases c with
  | irqDelay => exact absurd rfl hne
  | data b =>
    rcases State.setCell_data_cases t b v with ⟨d, -, h⟩ | ⟨-, h⟩ | ⟨-, h⟩ | ⟨-, h⟩ <;> rw [h]
    · rfl
    · exact State.setSfrView_irqDelay (fun e => hc (by simpa using BitVec.eq_of_toNat_eq e))
  | _ => rfl

/-- `sleeping` after the effects. -/
theorem State.sleeping_applyEffects (hrise : Memory.rising s.sfr = true) :
    (s.applyEffects w es).sleeping = (lastValue w es s .sleeping).elim s.sleeping (fun v => v != 0) := by
  refine (get_applyEffects (get := State.sleeping) (put := fun v => v != 0) (c := .sleeping) (others := []) hrise
    (fun _ t v _ => rfl) (fun t c v _ hne _ => ?_) (by simp)).1
  cases c with
  | sleeping => exact absurd rfl hne
  | data b => exact (State.setCell_data_hidden t b v).1
  | _ => rfl

/-- The request of a source of the table after the effects. -/
theorem State.mem_irqPending_applyEffects {n : Nat} (hrise : Memory.rising s.sfr = true)
    (hn : n < s.part.irqs.length) :
    n ∈ (s.applyEffects w es).irqPending ↔
      (lastValue w es s (.request n)).elim (n ∈ s.irqPending) (fun v => v ≠ 0) := by
  refine Eq.to_iff (get_applyEffects (get := fun t => n ∈ t.irqPending) (put := fun v => v ≠ 0) (c := .request n)
    (others := []) hrise (fun _ t v ht => ?_) (fun t c v ht hne _ => ?_) (by simp)).1
  · simp [State.setCell, State.setRequest, ht.part, hn]
  · cases c with
    | request m =>
      have hnm : n ≠ m := fun e => hne (e ▸ rfl)
      simp [State.setCell, State.setRequest, ht.part, hn, hnm]
    | data b => exact congrArg (n ∈ ·) (State.setCell_data_hidden t b v).2.1
    | _ => rfl

/-- `wdt_count` after the effects. -/
theorem State.wdtCount_applyEffects (hrise : Memory.rising s.sfr = true) :
    (s.applyEffects w es).wdtCount = if s.part.watchdog.isSome then
      (lastValue w es s .watchdog).elim s.wdtCount BitVec.toNat else s.wdtCount := by
  refine (get_applyEffects (get := State.wdtCount) (c := .watchdog) (others := [])
    (put := fun v => if s.part.watchdog.isSome then v.toNat else s.wdtCount) hrise (fun _ t v ht => ?_)
    (fun t c v _ hne _ => ?_) (by simp)).1.trans ?_
  · cases hdog : s.part.watchdog.isSome with
    | true => simp [State.setCell, ht.part, hdog]
    | false => simp [State.setCell, ht.part, hdog, ht.count hdog]
  · cases c with
    | watchdog => exact absurd rfl hne
    | data b => exact (State.setCell_data_hidden t b v).2.2
    | _ => rfl
  · cases s.part.watchdog.isSome <;> cases lastValue w es s .watchdog <;> rfl

/-- The effects of an access leave what `effectsOutcome` says. -/
theorem effectsOutcome_applyEffects (hrise : Memory.rising s.sfr = true) :
    effectsOutcome w es s (s.applyEffects w es) :=
  ⟨fun _ => State.cellByte_applyEffects w es hrise, fun _ => State.sramByte_applyEffects w es hrise,
    State.sp_applyEffects w es hrise, State.irqDelay_applyEffects w es hrise, State.sleeping_applyEffects w es hrise,
    fun _ => State.mem_irqPending_applyEffects w es hrise, State.wdtCount_applyEffects w es hrise,
    s.applyEffects_part w es, s.applyEffects_stopped w es,
    State.imageByte_congr (s.applyEffects_part w es) (s.applyEffects_prog w es)⟩

end

/-- Neither the access seen, nor the free value drawn, nor pc is among what effects leave. -/
theorem effectsOutcome_seen {w : Byte} {es : List IoEffect} (h : effectsOutcome w es s t) (e : IoEvent) (n : PcWord) :
    effectsOutcome w es s ((t.observe e).drawn.advance n) := h

-- IN and OUT by the kind of the SFR (R323, R324).

/-- IN at an SFR of plain storage. -/
theorem exec_in_storage (d : Reg) {a : BitVec 6} (hc : coreSfrAt s.part (sfrAddr a.toNat) = none)
    (hk : sfrKindAt s.part (sfrAddr a.toNat) = some .storage) :
    ∃ t, exec (.in_ d a) s = .next t ∧ t.reg d = s.sfrByte (sfrAddr a.toNat) ∧ KeepsRegs [d] s t ∧
      sfrReadFrame (sfrAddr a.toNat) (s.sfrByte (sfrAddr a.toNat)) s t ∧ KeepsSfrs [] s t ∧ t.draws = s.draws := by
  obtain ⟨hreg, hregs⟩ := reg_in (s := s) (d := d) (v := s.sfrByte (sfrAddr a.toNat))
    (u := s.observe (.read (sfrAddr a.toNat) (s.sfrByte (sfrAddr a.toNat)))) rfl
  exact ⟨_, exec_in_of (State.ioRead_storage hc hk), hreg, hregs, ⟨rfl, keepsFlags_of rfl, keepsSram_of rfl _,
    keepsSfrs_of rfl _, State.imageByte_congr rfl rfl, ⟨rfl, rfl, rfl, rfl, rfl⟩, ⟨rfl, rfl, rfl⟩, rfl, rfl⟩,
    keepsSfrs_of rfl _, rfl⟩

/-- OUT at an SFR of plain storage. -/
theorem exec_out_storage (d : Reg) {a : BitVec 6} (hwf : Memory.wf (some 0#8) s.sfr = true)
    (hc : coreSfrAt s.part (sfrAddr a.toNat) = none) (hk : sfrKindAt s.part (sfrAddr a.toNat) = some .storage) :
    ∃ t, exec (.out a d) s = .next t ∧ t.sfrByte (sfrAddr a.toNat) = s.reg d ∧
      t.ioLog = s.ioLog ++ [.write (sfrAddr a.toNat) (s.reg d)] ∧ KeepsSfrs [sfrAddr a.toNat] s t ∧
      KeepsSram [] s t ∧ KeepsProgram s t ∧ KeepsRegs [] s t ∧ KeepsFlags [] s t ∧ KeepsHidden s t ∧
      KeepsControl s t ∧ t.sp = s.sp ∧ t.irqDelay = s.irqDelay ∧ t.draws = s.draws := by
  obtain ⟨u, hwrite, hbyte, hsu, hpend, hlog, hdraws⟩ := State.ioWrite_storage_sfr (s.reg d) hwf hc hk
  have h := hsu.advance 1
  exact ⟨_, exec_out_of hwrite, hbyte, hlog, h.sfrs, keepsSram_of h.sram _, State.imageByte_congr h.part h.prog,
    keepsRegs_of h.regs, keepsFlags_of h.sreg, ⟨h.part, hpend, h.sleeping, h.stopped, h.wdtCount⟩, h.control, h.sp,
    h.irqDelay, hdraws⟩

/-- IN at a pin register, with its frame. -/
theorem exec_in_pins_frame (d : Reg) {a : BitVec 6} (hc : coreSfrAt s.part (sfrAddr a.toNat) = none)
    (hk : sfrKindAt s.part (sfrAddr a.toNat) = some .pins) :
    ∃ t, exec (.in_ d a) s = .next t ∧ t.reg d = Config.pinByte s.draws ∧ KeepsRegs [d] s t ∧
      sfrReadFrame (sfrAddr a.toNat) (Config.pinByte s.draws) s t ∧ KeepsSfrs [] s t := by
  obtain ⟨hreg, hregs⟩ := reg_in (s := s) (d := d) (v := Config.pinByte s.draws)
    (u := (s.observe (.read (sfrAddr a.toNat) (Config.pinByte s.draws))).drawn) rfl
  exact ⟨_, exec_in_of (State.ioRead_pins hc hk), hreg, hregs, ⟨rfl, keepsFlags_of rfl, keepsSram_of rfl _,
    keepsSfrs_of rfl _, State.imageByte_congr rfl rfl, ⟨rfl, rfl, rfl, rfl, rfl⟩, ⟨rfl, rfl, rfl⟩, rfl, rfl⟩,
    keepsSfrs_of rfl _⟩

/-- OUT at a pin register, with its frame. -/
theorem exec_out_pins_frame (d : Reg) {a : BitVec 6} (hc : coreSfrAt s.part (sfrAddr a.toNat) = none)
    (hk : sfrKindAt s.part (sfrAddr a.toNat) = some .pins) :
    ∃ t, exec (.out a d) s = .next t ∧ t.ioLog = s.ioLog ++ [.write (sfrAddr a.toNat) (s.reg d)] ∧
      KeepsMemory s t ∧ KeepsRegs [] s t ∧ KeepsFlags [] s t ∧ KeepsHidden s t ∧ KeepsControl s t ∧ t.sp = s.sp ∧
      t.irqDelay = s.irqDelay ∧ t.draws = s.draws :=
  ⟨_, exec_out_of (State.ioWrite_pins hc hk _), rfl, keepsMemory_of rfl rfl rfl rfl, keepsRegs_of rfl,
    keepsFlags_of rfl, ⟨rfl, rfl, rfl, rfl, rfl⟩, ⟨rfl, rfl, rfl⟩, rfl, rfl, rfl⟩

/-- The requests that remain when software writes v to the flags at n (R403). -/
theorem State.mem_withdraw_pending {n k : Nat} :
    k ∈ (s.withdraw n v).irqPending ↔ k ∈ s.irqPending ∧
      ∀ src f, s.part.irqs[k]? = some src → src.flag = some f → f.addr = n → v.getLsbD f.bit.toNat = false := by
  have hby : ∀ src, withdrawnBy src n v = false ↔
      ∀ f, src.flag = some f → f.addr = n → v.getLsbD f.bit.toNat = false := by
    intro src
    cases hf : src.flag <;> simp [withdrawnBy, hf]
  simp only [State.withdraw, List.mem_filter, Bool.not_eq_true']
  cases hs : s.part.irqs[k]? with
  | none => simp
  | some src =>
    simp only [Option.any_some, hby]
    refine and_congr_right fun _ => ⟨fun h src' f e => ?_, fun h f => h src f rfl⟩
    cases e
    exact h f

/-- IN at a status register in the SFR memory. -/
theorem exec_in_flags (d : Reg) {a : BitVec 6} (hwf : Memory.wf (some 0#8) s.sfr = true)
    (hc : coreSfrAt s.part (sfrAddr a.toNat) = none) (hk : sfrKindAt s.part (sfrAddr a.toNat) = some .flags)
    (ha : archSfrAt s.part (sfrAddr a.toNat) = none) :
    ∃ t v, exec (.in_ d a) s = .next t ∧ v = (s.sfrByte (sfrAddr a.toNat) ||| Config.flagsRaised s.draws) ∧
      t.reg d = v ∧ t.sfrByte (sfrAddr a.toNat) = v ∧ KeepsRegs [d] s t ∧ sfrReadFrame (sfrAddr a.toNat) v s t := by
  obtain ⟨u, hread, hheld, hru, -, hlog, hpend⟩ := State.ioRead_flags_sfr hwf hc hk ha
  obtain ⟨hreg, hregs⟩ := reg_in (d := d) (v := s.flagsRead (sfrAddr a.toNat)) hru.regs
  exact ⟨_, _, exec_in_of hread, by rw [State.flagsRead, State.sfrView_eq ha], hreg, hheld, hregs, hlog,
    keepsFlags_of hru.sreg, keepsSram_of hru.sram _, hru.sfrs, State.imageByte_congr hru.part hru.prog,
    ⟨hru.part, hpend, hru.sleeping, hru.stopped, hru.wdtCount⟩, hru.control, hru.sp, hru.irqDelay⟩

/-- OUT at a status register in the SFR memory. -/
theorem exec_out_flags (d : Reg) {a : BitVec 6} (hwf : Memory.wf (some 0#8) s.sfr = true)
    (hc : coreSfrAt s.part (sfrAddr a.toNat) = none) (hk : sfrKindAt s.part (sfrAddr a.toNat) = some .flags)
    (ha : archSfrAt s.part (sfrAddr a.toNat) = none) :
    ∃ t, exec (.out a d) s = .next t ∧
      (∀ n < 8, (t.sfrByte (sfrAddr a.toNat)).getLsbD n =
        ((s.sfrByte (sfrAddr a.toNat)).getLsbD n && !(s.reg d).getLsbD n)) ∧
      (∀ n, n ∈ t.irqPending ↔ n ∈ s.irqPending ∧ ∀ src f, s.part.irqs[n]? = some src → src.flag = some f →
        f.addr = sfrAddr a.toNat → (s.reg d).getLsbD f.bit.toNat = false) ∧
      t.ioLog = s.ioLog ++ [.write (sfrAddr a.toNat) (s.reg d)] ∧ KeepsSfrs [sfrAddr a.toNat] s t ∧
      KeepsSram [] s t ∧ KeepsProgram s t ∧ KeepsRegs [] s t ∧ KeepsFlags [] s t ∧ KeepsControl s t ∧
      t.sp = s.sp ∧ t.sleeping = s.sleeping ∧ t.irqDelay = s.irqDelay ∧ t.part = s.part ∧ t.stopped = s.stopped ∧
      t.wdtCount = s.wdtCount ∧ t.draws = s.draws := by
  obtain ⟨u, hwrite, hleft, hru, hpend, hlog, hdraws⟩ := State.ioWrite_flags_sfr (s.reg d) hwf hc hk ha
  have h := hru.advance 1
  refine ⟨_, exec_out_of hwrite, fun n hn => ?_, fun n => ?_, hlog, h.sfrs, keepsSram_of h.sram _,
    State.imageByte_congr h.part h.prog, keepsRegs_of h.regs, keepsFlags_of h.sreg, h.control, h.sp, h.sleeping,
    h.irqDelay, h.part, h.stopped, h.wdtCount, hdraws⟩
  · have hbits := congrArg (·.getLsbD n) hleft
    exact hbits.trans (by simp [hn])
  · have hmem := congrArg (n ∈ ·) hpend
    exact (Eq.to_iff hmem).trans State.mem_withdraw_pending

/-- IN at a described SFR: the write of its register is one more effect. -/
theorem exec_in_described (d : Reg) {a : BitVec 6} {b : SfrBehaviour} (hrise : Memory.rising s.sfr = true)
    (hc : coreSfrAt s.part (sfrAddr a.toNat) = none) (hk : sfrKindAt s.part (sfrAddr a.toNat) = some (.described b)) :
    ∃ t, exec (.in_ d a) s = .next t ∧ t.reg d = s.ioValue 0 b.readValue ∧
      effectsOutcome 0 (b.onRead ++ [⟨.data (d.setWidth 16), b.readValue⟩]) s t ∧
      t.ioLog = s.ioLog ++ [.read (sfrAddr a.toNat) (s.ioValue 0 b.readValue)] ∧ Advances 1 s t := by
  have heffects := effectsOutcome_applyEffects 0 (b.onRead ++ [⟨.data (d.setWidth 16), b.readValue⟩]) hrise
  have hplace : ∀ p, dataPlace p (d.setWidth 16) = .register d := by
    intro p
    have hlt : (d.setWidth 16 : Word).toNat < 32 := by
      rw [BitVec.toNat_setWidth]
      omega
    rw [dataPlace, if_pos hlt, BitVec.setWidth_setWidth_of_le _ (by decide), BitVec.setWidth_eq]
  rw [State.applyEffects_append, State.setCell, hplace] at heffects
  exact ⟨_, exec_in_of (State.ioRead_described hc hk), by simp,
    effectsOutcome_seen heffects _ 1, by simp, by simp [Advances]⟩

/-- OUT at a described SFR. -/
theorem exec_out_described (d : Reg) {a : BitVec 6} {b : SfrBehaviour} (hrise : Memory.rising s.sfr = true)
    (hc : coreSfrAt s.part (sfrAddr a.toNat) = none) (hk : sfrKindAt s.part (sfrAddr a.toNat) = some (.described b)) :
    ∃ t, exec (.out a d) s = .next t ∧ effectsOutcome (s.reg d) b.onWrite s t ∧
      t.ioLog = s.ioLog ++ [.write (sfrAddr a.toNat) (s.reg d)] ∧ Advances 1 s t :=
  ⟨_, exec_out_of (State.ioWrite_described hc hk _),
    effectsOutcome_seen (effectsOutcome_applyEffects (s.reg d) b.onWrite hrise) _ 1, by simp, by simp [Advances]⟩

end

/-- Settles O58, kind by kind. -/
theorem inAndOutReachTheSfr : Obligations.InAndOutReachTheSfr := by
  intro d a s hwf hc
  have hrise := Memory.rising_of_wf hwf
  exact ⟨fun hk => ⟨exec_in_storage d hc hk, exec_out_storage d hwf hc hk⟩,
    fun hk => ⟨exec_in_pins_frame d hc hk, exec_out_pins_frame d hc hk⟩,
    fun hk ha => ⟨exec_in_flags d hwf hc hk ha, exec_out_flags d hwf hc hk ha⟩,
    fun b hk => ⟨exec_in_described d hrise hc hk, exec_out_described d hrise hc hk⟩⟩

end Sys2Proof.Machine
end

section
/-! SUPPORT. The opcode table as a set of patterns: no two rows overlap (O3), the first word tells the length (O5), and
the words of no row are those of the regions the spec lists (O4). -/

namespace Sys2Proof

/-- The word has the pattern in the bits the mask covers. -/
def Matches (mask pattern w : Word) : Prop := w &&& mask = pattern

/-- Two patterns that one word matches agree wherever both masks look. -/
theorem Matches.agree {m₁ p₁ m₂ p₂ w : Word} (h₁ : Matches m₁ p₁ w) (h₂ : Matches m₂ p₂ w) :
    p₁ &&& m₂ = p₂ &&& m₁ := by
  rw [← h₁, ← h₂, BitVec.and_assoc, BitVec.and_assoc, BitVec.and_comm m₁]

-- No two rows overlap.

/-- The patterns of two rows differ in a bit that both masks cover. -/
def OpcodeRow.Apart (r₁ r₂ : OpcodeRow) : Prop := r₁.pattern &&& r₂.mask ≠ r₂.pattern &&& r₁.mask

theorem opcodeTable_apart : opcodeTable.Pairwise OpcodeRow.Apart := by
  unfold OpcodeRow.Apart
  decide

/-- A word matches at most one row of the table. -/
theorem row_unique {w : Word} {r₁ r₂ : OpcodeRow} (h₁ : r₁ ∈ opcodeTable) (h₂ : r₂ ∈ opcodeTable)
    (hm₁ : Matches r₁.mask r₁.pattern w) (hm₂ : Matches r₂.mask r₂.pattern w) : r₁ = r₂ := by
  have : Std.Symm OpcodeRow.Apart := ⟨fun _ _ h => Ne.symm h⟩
  by_contra hne
  exact opcodeTable_apart.forall h₁ h₂ hne (hm₁.agree hm₂)

/-- Since no two rows overlap, the row the decoder finds is whichever row the word matches. -/
theorem rowOf_of_matches {w : Word} {row : OpcodeRow} (hrow : row ∈ opcodeTable)
    (hm : Matches row.mask row.pattern w) : rowOf w = some row := by
  cases h : rowOf w with
  | none => exact absurd hm (by simpa [Matches] using List.find?_eq_none.1 h row hrow)
  | some r => exact congrArg some (row_unique (List.mem_of_find?_eq_some h) hrow (rowOf_some h).1 hm)

-- The length of an instruction.

/-- The four patterns of R110 are those of the rows with two words. -/
theorem exists_twoWord_row_iff (w : Word) :
    (∃ r ∈ opcodeTable, r.twoWords = true ∧ Matches r.mask r.pattern w) ↔
      w &&& 0xFE0F#16 = 0x9000#16 ∨ w &&& 0xFE0F#16 = 0x9200#16 ∨ w &&& 0xFE0E#16 = 0x940C#16 ∨
        w &&& 0xFE0E#16 = 0x940E#16 := by
  simp [opcodeTable, Matches]

theorem instrLen_of_matches {w : Word} {row : OpcodeRow} (hrow : row ∈ opcodeTable)
    (hm : Matches row.mask row.pattern w) : instrLen w = if row.twoWords then 2 else 1 := by
  have two_iff : (∃ r ∈ opcodeTable, r.twoWords = true ∧ Matches r.mask r.pattern w) ↔ row.twoWords = true := by
    constructor
    · rintro ⟨r, hr, htwo, hmr⟩
      rwa [row_unique hrow hr hm hmr]
    · exact fun htwo => ⟨row, hrow, htwo, hm⟩
  simp only [instrLen, ← exists_twoWord_row_iff, two_iff]

-- Patterns that cover all words.

/-- The pattern leaves every one of these bits open. -/
def leavesOpen (js : List Nat) (p : Word × Word) : Bool := js.all fun j => !p.1.getLsbD j && !p.2.getLsbD j

/-- The pattern admits words whose bit j is b. -/
def admits (j : Nat) (b : Bool) (p : Word × Word) : Bool := (b && p.1.getLsbD j) == p.2.getLsbD j

/-- Whether the patterns cover every word that has all of them outside the bits `js`: one of them leaves these bits
open, or those for either value of the first bit cover the rest. -/
def covers : List Nat → List (Word × Word) → Bool
  | [], ps => !ps.isEmpty
  | j :: js, ps => ps.any (leavesOpen (j :: js)) ||
      (covers js (ps.filter (admits j false)) && covers js (ps.filter (admits j true)))

/-- The word has the pattern (a mask and its fixed bits) in every bit outside `js`. -/
def MatchesBut (js : List Nat) (p : Word × Word) (w : Word) : Prop :=
  ∀ j ∉ js, (w &&& p.1).getLsbD j = p.2.getLsbD j

theorem MatchesBut.matches_of_leavesOpen {js : List Nat} {p : Word × Word} {w : Word} (h : MatchesBut js p w)
    (hopen : leavesOpen js p = true) : Matches p.1 p.2 w := by
  refine BitVec.eq_of_getLsbD_eq fun j _ => ?_
  by_cases hj : j ∈ js
  · have hbits := List.all_eq_true.1 hopen j hj
    simp only [Bool.and_eq_true, Bool.not_eq_true'] at hbits
    obtain ⟨hmask, hpattern⟩ := hbits
    simp [hmask, hpattern]
  · exact h j hj

/-- Where the patterns cover, each word that has them all outside `js` matches one: the first bit of `js` tells which
half of the patterns to look in. -/
theorem exists_matches_of_covers {w : Word} : ∀ {js : List Nat} {ps : List (Word × Word)}, covers js ps = true →
    (∀ p ∈ ps, MatchesBut js p w) → ∃ p ∈ ps, Matches p.1 p.2 w
  | [], [], hc, _ => absurd hc (by decide)
  | [], p :: _, _, hps => ⟨p, List.mem_cons_self, (hps p List.mem_cons_self).matches_of_leavesOpen rfl⟩
  | j :: js, ps, hc, hps => by
    have step (b : Bool) (hb : w.getLsbD j = b) (hcov : covers js (ps.filter (admits j b)) = true) :
        ∃ p ∈ ps, Matches p.1 p.2 w := by
      obtain ⟨p, hp, hm⟩ := exists_matches_of_covers hcov fun p hp k hk => by
        obtain ⟨hmem, hadmits⟩ := List.mem_filter.1 hp
        by_cases hkj : k = j
        · rw [hkj, BitVec.getLsbD_and, hb]
          exact beq_iff_eq.1 hadmits
        · exact hps p hmem k (by simp [hk, hkj])
      exact ⟨p, (List.mem_filter.1 hp).1, hm⟩
    rcases Bool.or_eq_true_iff.1 hc with hopen | hsplit
    · obtain ⟨p, hp, hpopen⟩ := List.any_eq_true.1 hopen
      exact ⟨p, hp, (hps p hp).matches_of_leavesOpen hpopen⟩
    · obtain ⟨hzero, hone⟩ := Bool.and_eq_true_iff.1 hsplit
      cases hb : w.getLsbD j with
      | false => exact step false hb hzero
      | true => exact step true hb hone

-- The words of no row.

/-- Masks and patterns of the nine regions of R113; the regions at $0000, $9409 and $9509 as full blocks, with the words
of rows that stand in them. -/
def unassignedPatterns : List (Word × Word) :=
  [(0xFF00#16, 0x0000#16)] ++
    [0x9003#16, 0x9008#16, 0x900B#16, 0x9203#16, 0x9204#16, 0x9205#16, 0x9206#16, 0x9207#16, 0x9208#16, 0x920B#16,
      0x9404#16, 0x940B#16].map (Prod.mk 0xFE0F#16) ++
    [0x9409#16, 0x9509#16].map (Prod.mk 0xFF0F#16) ++
    [0x9528#16, 0x9538#16, 0x9548#16, 0x9558#16, 0x9568#16, 0x9578#16, 0x95B8#16, 0x95F8#16].map
      (Prod.mk (BitVec.allOnes 16)) ++
    [(0xF808#16, 0xF808#16)]

/-- The words of rows inside `unassignedPatterns`: NOP, IJMP, EIJMP, ICALL, EICALL. -/
def enclosedWords : List Word := [0x0000#16, 0x9409#16, 0x9419#16, 0x9509#16, 0x9519#16]

/-- The bits of a word, those of the register field of most formats last: the opcodes are told apart before them. -/
def opcodeBits : List Nat := [15, 14, 13, 12, 11, 10, 9, 3, 2, 1, 0, 8, 7, 6, 5, 4]

theorem covers_table_and_unassigned :
    covers opcodeBits (opcodeTable.map (fun r => (r.mask, r.pattern)) ++ unassignedPatterns) = true := by decide

/-- Where a row overlaps a pattern of `unassignedPatterns` it is a single word, one of `enclosedWords`. -/
theorem row_in_unassigned {p : Word × Word} (hp : p ∈ unassignedPatterns) {row : OpcodeRow}
    (hrow : row ∈ opcodeTable) (h : row.pattern &&& p.1 = p.2 &&& row.mask) :
    row.mask = BitVec.allOnes 16 ∧ row.pattern ∈ enclosedWords := by
  have hall : (unassignedPatterns.all fun p => opcodeTable.all fun row =>
      row.pattern &&& p.1 != p.2 &&& row.mask ||
        (row.mask == BitVec.allOnes 16 && enclosedWords.contains row.pattern)) = true := by decide
  simpa [h] using List.all_eq_true.1 (List.all_eq_true.1 hall p hp) row hrow

theorem rowOf_enclosed : ∀ v ∈ enclosedWords, (rowOf v).isSome = true := by
  simp only [enclosedWords, List.forall_mem_cons]
  exact ⟨rfl, rfl, rfl, rfl, rfl, fun _ h => nomatch h⟩

/-- The words of no row, as patterns without the words they enclose. -/
theorem rowOf_eq_none_iff (w : Word) :
    rowOf w = none ↔ (∃ p ∈ unassignedPatterns, Matches p.1 p.2 w) ∧ w ∉ enclosedWords := by
  constructor
  · intro hnone
    refine ⟨?_, fun hw => by simpa [hnone] using rowOf_enclosed w hw⟩
    have hall : ∀ p ∈ opcodeTable.map (fun r => (r.mask, r.pattern)) ++ unassignedPatterns,
        MatchesBut opcodeBits p w := fun p _ j hj => by
      have hj16 : 16 ≤ j := by
        by_contra hlt
        exact hj ((by decide : ∀ k < 16, k ∈ opcodeBits) j (by omega))
      rw [BitVec.getLsbD_of_ge _ _ hj16, BitVec.getLsbD_of_ge _ _ hj16]
    obtain ⟨p, hp, hm⟩ := exists_matches_of_covers covers_table_and_unassigned hall
    rcases List.mem_append.1 hp with hmem | hgap
    · obtain ⟨row, hrow, rfl⟩ := List.mem_map.1 hmem
      simp [rowOf_of_matches hrow hm] at hnone
    · exact ⟨p, hgap, hm⟩
  · rintro ⟨⟨p, hp, hm⟩, hw⟩
    rw [Option.eq_none_iff_forall_ne_some]
    intro row hrow
    have hmrow : Matches row.mask row.pattern w := (rowOf_some hrow).1
    obtain ⟨hmask, hpattern⟩ := row_in_unassigned hp (List.mem_of_find?_eq_some hrow) (hmrow.agree hm)
    rw [Matches, hmask, BitVec.and_allOnes] at hmrow
    exact hw (hmrow ▸ hpattern)

/-- The bits of 0xFE0F are those of 0xFE00 and the low nibble. -/
theorem and_FE0F (w : Word) : w &&& 0xFE0F#16 = (w &&& 0xFE00#16) ||| (w.extractLsb' 0 4).setWidth 16 := by
  have hlow : (w.extractLsb' 0 4).setWidth 16 = w &&& 0x000F#16 := by
    apply BitVec.eq_of_toNat_eq
    have hmod : w.toNat &&& 15 = w.toNat % 16 := Nat.and_two_pow_sub_one_eq_mod w.toNat 4
    have hlt : w.toNat % 16 % 65536 = w.toNat % 16 := by omega
    simp [hmod, hlt]
  rw [hlow, ← BitVec.and_or_distrib_left]
  rfl

theorem and_FE0F_eq_iff {p : Word} (hp : p &&& 0xFE0F#16 = p) (w : Word) :
    w &&& 0xFE0F#16 = p ↔ w &&& 0xFE00#16 = p &&& 0xFE00#16 ∧ w.extractLsb' 0 4 = p.extractLsb' 0 4 := by
  constructor
  · intro h
    exact ⟨by rw [← h, BitVec.and_assoc]; rfl, extractLsb'_of_matches h 0 4⟩
  · rintro ⟨hhigh, hlow⟩
    rw [and_FE0F, hhigh, hlow, ← and_FE0F, hp]

theorem enclosed_assigned : ∀ v ∈ enclosedWords, ¬ Machine.unassignedWord v := by
  simp [enclosedWords, Machine.unassignedWord]

/-- Outside the enclosed words, R113's regions are the patterns. -/
theorem unassignedWord_iff_matches {w : Word} (hw : w ∉ enclosedWords) :
    Machine.unassignedWord w ↔ ∃ p ∈ unassignedPatterns, Matches p.1 p.2 w := by
  simp only [enclosedWords, List.mem_cons, List.not_mem_nil, not_or] at hw
  obtain ⟨h0, h1, h2, h3, h4, -⟩ := hw
  simp [Machine.unassignedWord, unassignedPatterns, Matches, and_FE0F_eq_iff, h0, h1, h2, h3, h4, and_or_left, or_assoc,
    -BitVec.reduceAllOnes]

theorem unassignedWord_iff (w : Word) :
    Machine.unassignedWord w ↔ (∃ p ∈ unassignedPatterns, Matches p.1 p.2 w) ∧ w ∉ enclosedWords := by
  by_cases hw : w ∈ enclosedWords
  · simp [hw, enclosed_assigned w hw]
  · simp [hw, unassignedWord_iff_matches hw]

end Sys2Proof

namespace Sys2Proof.Machine

/-- Settles O3: the row is even the same. -/
theorem opcodeRowsDoNotOverlap : Obligations.OpcodeRowsDoNotOverlap := by
  intro w r₁ r₂ h₁ h₂ hm₁ hm₂
  rw [row_unique h₁ h₂ hm₁ hm₂]

/-- Settles O4: the table and the patterns of the regions cover all words, and overlap in the enclosed words only. -/
theorem unassignedWordsAreTheListedRegions : Obligations.UnassignedWordsAreTheListedRegions := by
  intro w
  rw [rowOf_eq_none_iff, unassignedWord_iff]

end Sys2Proof.Machine
end

section
/-! SUPPORT. What the encoder writes decodes (O1, O5): for each format of R103 the word written with given fields has
the row's pattern, and the decoder reads those fields in it (R102, R104, R111). -/

namespace Sys2Proof

open BitVec

-- Joined bit vectors, cut and joined as in the library's lemmas; but the width of a join is a sum of variables here and
-- one of numbers in the formats, so it is kept out of the index by which `simp` finds a rule.

theorem extractLsb'_append_low {v m start len : Nat} {hi : BitVec v} {lo : BitVec m} (h : start + len ≤ m) :
    extractLsb' start len (HAppend.hAppend (γ := no_index (BitVec (v + m))) hi lo) = extractLsb' start len lo :=
  extractLsb'_append_eq_of_add_le h

theorem extractLsb'_append_high {v m start len : Nat} {hi : BitVec v} {lo : BitVec m} (h : m ≤ start) :
    extractLsb' start len (HAppend.hAppend (γ := no_index (BitVec (v + m))) hi lo) = extractLsb' (start - m) len hi :=
  extractLsb'_append_eq_of_le h

theorem append_extractLsb' {w m n start mid : Nat} {x : BitVec w} (h : mid = start + n) :
    HAppend.hAppend (γ := no_index (BitVec (m + n))) (x.extractLsb' mid m) (x.extractLsb' start n) =
      x.extractLsb' start (m + n) :=
  extractLsb'_join x h

theorem append_and_append {v m : Nat} {hi hi' : BitVec v} {lo lo' : BitVec m} :
    HAppend.hAppend (γ := no_index (BitVec (v + m))) hi lo &&&
      HAppend.hAppend (γ := no_index (BitVec (v + m))) hi' lo' = (hi &&& hi') ++ (lo &&& lo') :=
  and_append

-- The register subsets of R22: the fields keep what tells their registers apart.

theorem upper_eq : ∀ {d : Reg}, d.isUpper = true → 1#1 ++ d.extractLsb' 0 4 = d := by decide
theorem mulsu_eq : ∀ {d : Reg}, d.isMulsu = true → 2#2 ++ d.extractLsb' 0 3 = d := by decide
theorem even_eq : ∀ {d : Reg}, d.isEven = true → d.extractLsb' 1 4 ++ 0#1 = d := by decide
theorem wordPair_eq : ∀ {d : Reg}, d.isWordPair = true → 3#2 ++ d.extractLsb' 1 2 ++ 0#1 = d := by decide

-- Each format of R103: the bits its rows fix, and the fields the decoder reads.

theorem encodeRR_matches (op d r) :
    Matches (allOnes 6 ++ 0#1 ++ 0#5 ++ 0#4) (op ++ 0#1 ++ 0#5 ++ 0#4) (encodeRR op d r) := by
  simp [Matches, encodeRR, append_and_append, -reduceAllOnes]
theorem encodeRR_reads (op d r) : fieldD5 (encodeRR op d r) = d ∧ fieldR5 (encodeRR op d r) = r := by
  simp [encodeRR, fieldD5, fieldR5, extractLsb'_append_low, extractLsb'_append_high, append_extractLsb']

theorem encodeRI_matches (op d k) :
    Matches (allOnes 4 ++ 0#4 ++ 0#4 ++ 0#4) (op ++ 0#4 ++ 0#4 ++ 0#4) (encodeRI op d k) := by
  simp [Matches, encodeRI, append_and_append, -reduceAllOnes]
theorem encodeRI_reads (op d k) (hd : d.isUpper = true) :
    fieldDUpper (encodeRI op d k) = d ∧ fieldK8 (encodeRI op d k) = k := by
  simp [encodeRI, fieldDUpper, fieldK8, extractLsb'_append_low, extractLsb'_append_high, append_extractLsb',
    upper_eq hd]

theorem encodeR1_matches (op d o2) : Matches (allOnes 7 ++ 0#5 ++ allOnes 4) (op ++ 0#5 ++ o2) (encodeR1 op d o2) := by
  simp [Matches, encodeR1, append_and_append, -reduceAllOnes]
theorem encodeR1_reads (op d o2) : fieldD5 (encodeR1 op d o2) = d := by
  simp [encodeR1, fieldD5, extractLsb'_append_low, extractLsb'_append_high]

theorem encodeWI_matches (op d k) :
    Matches (allOnes 8 ++ 0#2 ++ 0#2 ++ 0#4) (op ++ 0#2 ++ 0#2 ++ 0#4) (encodeWI op d k) := by
  simp [Matches, encodeWI, append_and_append, -reduceAllOnes]
theorem encodeWI_reads (op d k) (hd : d.isWordPair = true) :
    fieldDPair (encodeWI op d k) = d ∧ fieldK6 (encodeWI op d k) = k := by
  simp [encodeWI, fieldDPair, fieldK6, extractLsb'_append_low, extractLsb'_append_high, append_extractLsb',
    wordPair_eq hd]

theorem encodeMovw_matches (d r) : Matches (allOnes 8 ++ 0#4 ++ 0#4) (1#8 ++ 0#4 ++ 0#4) (encodeMovw d r) := by
  simp [Matches, encodeMovw, append_and_append, -reduceAllOnes]
theorem encodeMovw_reads (d r) (hd : d.isEven = true) (hr : r.isEven = true) :
    fieldDEven (encodeMovw d r) = d ∧ fieldREven (encodeMovw d r) = r := by
  simp [encodeMovw, fieldDEven, fieldREven, extractLsb'_append_low, extractLsb'_append_high, even_eq hd, even_eq hr]

theorem encodeMuls_matches (d r) : Matches (allOnes 8 ++ 0#4 ++ 0#4) (2#8 ++ 0#4 ++ 0#4) (encodeMuls d r) := by
  simp [Matches, encodeMuls, append_and_append, -reduceAllOnes]
theorem encodeMuls_reads (d r) (hd : d.isUpper = true) (hr : r.isUpper = true) :
    fieldDUpper (encodeMuls d r) = d ∧ fieldRUpper (encodeMuls d r) = r := by
  simp [encodeMuls, fieldDUpper, fieldRUpper, extractLsb'_append_low, extractLsb'_append_high, upper_eq hd, upper_eq hr]

theorem encodeRR3_matches (o1 d o2 r) :
    Matches (allOnes 8 ++ allOnes 1 ++ 0#3 ++ allOnes 1 ++ 0#3) (3#8 ++ o1 ++ 0#3 ++ o2 ++ 0#3)
      (encodeRR3 o1 d o2 r) := by
  simp [Matches, encodeRR3, append_and_append, -reduceAllOnes]
theorem encodeRR3_reads (o1 d o2 r) (hd : d.isMulsu = true) (hr : r.isMulsu = true) :
    fieldDMulsu (encodeRR3 o1 d o2 r) = d ∧ fieldRMulsu (encodeRR3 o1 d o2 r) = r := by
  simp [encodeRR3, fieldDMulsu, fieldRMulsu, extractLsb'_append_low, extractLsb'_append_high, mulsu_eq hd, mulsu_eq hr]

theorem encodeSreg_matches (o b) :
    Matches (allOnes 8 ++ allOnes 1 ++ 0#3 ++ allOnes 4) (0x94#8 ++ o ++ 0#3 ++ 8#4) (encodeSreg o b) := by
  simp [Matches, encodeSreg, append_and_append, -reduceAllOnes]
theorem encodeSreg_reads (o b) : fieldS (encodeSreg o b) = b := by
  simp [encodeSreg, fieldS, extractLsb'_append_low, extractLsb'_append_high]

theorem encodeRB_matches (op d b) :
    Matches (allOnes 7 ++ 0#5 ++ allOnes 1 ++ 0#3) (op ++ 0#5 ++ 0#1 ++ 0#3) (encodeRB op d b) := by
  simp [Matches, encodeRB, append_and_append, -reduceAllOnes]
theorem encodeRB_reads (op d b) : fieldD5 (encodeRB op d b) = d ∧ fieldB (encodeRB op d b) = b := by
  simp [encodeRB, fieldD5, fieldB, extractLsb'_append_low, extractLsb'_append_high]

theorem encodeBR_matches (op b k) : Matches (allOnes 6 ++ 0#7 ++ 0#3) (op ++ 0#7 ++ 0#3) (encodeBR op b k) := by
  simp [Matches, encodeBR, append_and_append, -reduceAllOnes]
theorem encodeBR_reads (op b k) : fieldB (encodeBR op b k) = b ∧ fieldK7 (encodeBR op b k) = k := by
  simp [encodeBR, fieldB, fieldK7, extractLsb'_append_low, extractLsb'_append_high]

theorem encodeRel12_matches (op k) : Matches (allOnes 4 ++ 0#12) (op ++ 0#12) (encodeRel12 op k) := by
  simp [Matches, encodeRel12, append_and_append, -reduceAllOnes]
theorem encodeRel12_reads (op k) : fieldK12 (encodeRel12 op k) = k := by
  simp [encodeRel12, fieldK12, extractLsb'_append_low]

/-- The first word of format ABS22. -/
def encodeAbs22First (op : BitVec 3) (k : BitVec 22) : Word :=
  0b1001010#7 ++ k.extractLsb' 17 5 ++ op ++ k.extractLsb' 16 1

theorem encodeAbs22_matches (op k) :
    Matches (allOnes 7 ++ 0#5 ++ allOnes 3 ++ 0#1) (0b1001010#7 ++ 0#5 ++ op ++ 0#1) (encodeAbs22First op k) := by
  simp [Matches, encodeAbs22First, append_and_append, -reduceAllOnes]
theorem encodeAbs22_reads (op k) : fieldK22 (encodeAbs22First op k) (k.extractLsb' 0 16) = k := by
  simp [encodeAbs22First, fieldK22, extractLsb'_append_low, extractLsb'_append_high, append_extractLsb']

theorem encodeIOB_matches (op a b) : Matches (allOnes 8 ++ 0#5 ++ 0#3) (op ++ 0#5 ++ 0#3) (encodeIOB op a b) := by
  simp [Matches, encodeIOB, append_and_append, -reduceAllOnes]
theorem encodeIOB_reads (op a b) : fieldA5 (encodeIOB op a b) = a ∧ fieldB (encodeIOB op a b) = b := by
  simp [encodeIOB, fieldA5, fieldB, extractLsb'_append_low, extractLsb'_append_high]

theorem encodeIO_matches (op a d) :
    Matches (allOnes 5 ++ 0#2 ++ 0#5 ++ 0#4) (op ++ 0#2 ++ 0#5 ++ 0#4) (encodeIO op a d) := by
  simp [Matches, encodeIO, append_and_append, -reduceAllOnes]
theorem encodeIO_reads (op a d) : fieldA6 (encodeIO op a d) = a ∧ fieldD5 (encodeIO op a d) = d := by
  simp [encodeIO, fieldA6, fieldD5, extractLsb'_append_low, extractLsb'_append_high, append_extractLsb']

theorem encodeLDD_matches (o d y q) :
    Matches (allOnes 2 ++ 0#1 ++ allOnes 1 ++ 0#2 ++ allOnes 1 ++ 0#5 ++ allOnes 1 ++ 0#3)
      (2#2 ++ 0#1 ++ 0#1 ++ 0#2 ++ o ++ 0#5 ++ y ++ 0#3) (encodeLDD o d y q) := by
  simp [Matches, encodeLDD, append_and_append, -reduceAllOnes]
theorem encodeLDD_reads (o d y q) : fieldD5 (encodeLDD o d y q) = d ∧ fieldQ (encodeLDD o d y q) = q := by
  simp [encodeLDD, fieldD5, fieldQ, extractLsb'_append_low, extractLsb'_append_high, append_extractLsb']

end Sys2Proof
end

section
/-! SUPPORT. Every well-formed core instruction is what its row builds from the words it is encoded to, so these words
decode to it (O1) and tell their number (O5); aliases (O7), absent groups (O20) and the spec's examples (O6). -/

namespace Sys2Proof

open BitVec

/-- The row builds the instruction from words of its pattern; a row of one word looks at no second one. -/
def OpcodeRow.Builds (row : OpcodeRow) (i : Instr) : Prop :=
  ∃ w w2, Matches row.mask row.pattern w ∧ (row.twoWords = false → w2 = 0#16) ∧ row.build w w2 = i

/-- A row of one word builds what it builds from one of its words. -/
theorem builds_word {name : String} {mask pat : Word} {build : Word → Word → Instr} {i : Instr} (w : Word)
    (hm : Matches mask pat w) (hbuild : build w 0#16 = i) : OpcodeRow.Builds ⟨name, mask, pat, false, build⟩ i :=
  ⟨w, 0#16, hm, fun _ => rfl, hbuild⟩

-- One rule for each format: where the row's pattern is the format's opcode with zeros for the fields (`hp`), the row
-- builds the instruction with any fields the format admits.

section

variable {name : String} {pat : Word}

theorem builds_fixed {i : Instr} : OpcodeRow.Builds ⟨name, 0xFFFF#16, pat, false, fun _ _ => i⟩ i :=
  builds_word pat and_allOnes rfl

theorem builds_RR {build : Reg → Reg → Instr} (d r : Reg)
    (hp : pat.extractLsb' 10 6 ++ 0#1 ++ 0#5 ++ 0#4 = pat := by rfl) :
    OpcodeRow.Builds ⟨name, 0xFC00#16, pat, false, fun w _ => build (fieldD5 w) (fieldR5 w)⟩ (build d r) :=
  builds_word _ ((encodeRR_matches _ d r).trans hp) (by simp only [encodeRR_reads])

theorem builds_RI {build : Reg → Byte → Instr} (d : Reg) (k : Byte) (hd : d.isUpper = true)
    (hp : pat.extractLsb' 12 4 ++ 0#4 ++ 0#4 ++ 0#4 = pat := by rfl) :
    OpcodeRow.Builds ⟨name, 0xF000#16, pat, false, fun w _ => build (fieldDUpper w) (fieldK8 w)⟩ (build d k) :=
  builds_word _ ((encodeRI_matches _ d k).trans hp) (by simp only [encodeRI_reads _ d k hd])

theorem builds_R1 {build : Reg → Instr} (d : Reg)
    (hp : pat.extractLsb' 9 7 ++ 0#5 ++ pat.extractLsb' 0 4 = pat := by rfl) :
    OpcodeRow.Builds ⟨name, 0xFE0F#16, pat, false, fun w _ => build (fieldD5 w)⟩ (build d) :=
  builds_word _ ((encodeR1_matches _ d _).trans hp) (by simp only [encodeR1_reads])

theorem builds_LS {build : Reg → Word → Instr} (d : Reg) (k : Word)
    (hp : pat.extractLsb' 9 7 ++ 0#5 ++ pat.extractLsb' 0 4 = pat := by rfl) :
    OpcodeRow.Builds ⟨name, 0xFE0F#16, pat, true, fun w w2 => build (fieldD5 w) w2⟩ (build d k) :=
  ⟨_, k, (encodeR1_matches _ d _).trans hp, (fun h => nomatch h), by simp only [encodeR1_reads]⟩

theorem builds_RR3 {build : Reg → Reg → Instr} (d r : Reg) (hd : d.isMulsu = true ∧ r.isMulsu = true)
    (hp : 3#8 ++ pat.extractLsb' 7 1 ++ 0#3 ++ pat.extractLsb' 3 1 ++ 0#3 = pat := by rfl) :
    OpcodeRow.Builds ⟨name, 0xFF88#16, pat, false, fun w _ => build (fieldDMulsu w) (fieldRMulsu w)⟩ (build d r) :=
  builds_word _ ((encodeRR3_matches _ d _ r).trans hp) (by simp only [encodeRR3_reads _ d _ r hd.1 hd.2])

theorem builds_WI {build : Reg → BitVec 6 → Instr} (d : Reg) (k : BitVec 6) (hd : d.isWordPair = true)
    (hp : pat.extractLsb' 8 8 ++ 0#2 ++ 0#2 ++ 0#4 = pat := by rfl) :
    OpcodeRow.Builds ⟨name, 0xFF00#16, pat, false, fun w _ => build (fieldDPair w) (fieldK6 w)⟩ (build d k) :=
  builds_word _ ((encodeWI_matches _ d k).trans hp) (by simp only [encodeWI_reads _ d k hd])

theorem builds_Sreg {build : BitVec 3 → Instr} (b : BitVec 3)
    (hp : 0x94#8 ++ pat.extractLsb' 7 1 ++ 0#3 ++ 8#4 = pat := by rfl) :
    OpcodeRow.Builds ⟨name, 0xFF8F#16, pat, false, fun w _ => build (fieldS w)⟩ (build b) :=
  builds_word _ ((encodeSreg_matches _ b).trans hp) (by simp only [encodeSreg_reads])

theorem builds_RB {build : Reg → BitVec 3 → Instr} (d : Reg) (b : BitVec 3)
    (hp : pat.extractLsb' 9 7 ++ 0#5 ++ 0#1 ++ 0#3 = pat := by rfl) :
    OpcodeRow.Builds ⟨name, 0xFE08#16, pat, false, fun w _ => build (fieldD5 w) (fieldB w)⟩ (build d b) :=
  builds_word _ ((encodeRB_matches _ d b).trans hp) (by simp only [encodeRB_reads])

theorem builds_BR {build : BitVec 3 → BitVec 7 → Instr} (b : BitVec 3) (k : BitVec 7)
    (hp : pat.extractLsb' 10 6 ++ 0#7 ++ 0#3 = pat := by rfl) :
    OpcodeRow.Builds ⟨name, 0xFC00#16, pat, false, fun w _ => build (fieldB w) (fieldK7 w)⟩ (build b k) :=
  builds_word _ ((encodeBR_matches _ b k).trans hp) (by simp only [encodeBR_reads])

theorem builds_Rel12 {build : BitVec 12 → Instr} (k : BitVec 12)
    (hp : pat.extractLsb' 12 4 ++ 0#12 = pat := by rfl) :
    OpcodeRow.Builds ⟨name, 0xF000#16, pat, false, fun w _ => build (fieldK12 w)⟩ (build k) :=
  builds_word _ ((encodeRel12_matches _ k).trans hp) (by simp only [encodeRel12_reads])

theorem builds_Abs22 {build : BitVec 22 → Instr} (k : BitVec 22)
    (hp : 0b1001010#7 ++ 0#5 ++ pat.extractLsb' 1 3 ++ 0#1 = pat := by rfl) :
    OpcodeRow.Builds ⟨name, 0xFE0E#16, pat, true, fun w w2 => build (fieldK22 w w2)⟩ (build k) :=
  ⟨_, k.extractLsb' 0 16, (encodeAbs22_matches _ k).trans hp, (fun h => nomatch h),
    by simp only [encodeAbs22_reads]⟩

theorem builds_IOB {build : BitVec 5 → BitVec 3 → Instr} (a : BitVec 5) (b : BitVec 3)
    (hp : pat.extractLsb' 8 8 ++ 0#5 ++ 0#3 = pat := by rfl) :
    OpcodeRow.Builds ⟨name, 0xFF00#16, pat, false, fun w _ => build (fieldA5 w) (fieldB w)⟩ (build a b) :=
  builds_word _ ((encodeIOB_matches _ a b).trans hp) (by simp only [encodeIOB_reads])

theorem builds_IO {build : BitVec 6 → Reg → Instr} (a : BitVec 6) (d : Reg)
    (hp : pat.extractLsb' 11 5 ++ 0#2 ++ 0#5 ++ 0#4 = pat := by rfl) :
    OpcodeRow.Builds ⟨name, 0xF800#16, pat, false, fun w _ => build (fieldA6 w) (fieldD5 w)⟩ (build a d) :=
  builds_word _ ((encodeIO_matches _ a d).trans hp) (by simp only [encodeIO_reads])

theorem builds_LDD {build : Reg → BitVec 6 → Instr} (d : Reg) (q : BitVec 6)
    (hp : 2#2 ++ 0#1 ++ 0#1 ++ 0#2 ++ pat.extractLsb' 9 1 ++ 0#5 ++ pat.extractLsb' 3 1 ++ 0#3 = pat := by rfl) :
    OpcodeRow.Builds ⟨name, 0xD208#16, pat, false, fun w _ => build (fieldD5 w) (fieldQ w)⟩ (build d q) :=
  builds_word _ ((encodeLDD_matches _ d _ q).trans hp) (by simp only [encodeLDD_reads])

end

theorem builds_movw {name : String} {d r : Reg} (hd : d.isEven = true ∧ r.isEven = true) :
    OpcodeRow.Builds ⟨name, 0xFF00#16, 0x0100#16, false, fun w _ => .movw (fieldDEven w) (fieldREven w)⟩
      (.movw d r) :=
  builds_word _ (encodeMovw_matches d r) (by simp only [encodeMovw_reads d r hd.1 hd.2])

theorem builds_muls {name : String} {d r : Reg} (hd : d.isUpper = true ∧ r.isUpper = true) :
    OpcodeRow.Builds ⟨name, 0xFF00#16, 0x0200#16, false, fun w _ => .muls (fieldDUpper w) (fieldRUpper w)⟩
      (.muls d r) :=
  builds_word _ (encodeMuls_matches d r) (by simp only [encodeMuls_reads d r hd.1 hd.2])

/-- The constructors of the core instructions stand in the table's order: each is built by the row of its number. -/
theorem Instr.Core.row {i : Instr} (h : i.Core) : ∃ row, opcodeTable[i.ctorIdx]? = some row ∧ row.Builds i := by
  obtain ⟨hwf, hcore⟩ := h
  cases i with
  | nop | ijmp | eijmp | ret | icall | reti | eicall | sleep | break_ | wdr | lpm | elpm | spm =>
    exact ⟨_, rfl, builds_fixed⟩
  | movw => exact ⟨_, rfl, builds_movw (Bool.and_eq_true_iff.1 hwf)⟩
  | muls => exact ⟨_, rfl, builds_muls (Bool.and_eq_true_iff.1 hwf)⟩
  | mulsu d r | fmul d r | fmuls d r | fmulsu d r => exact ⟨_, rfl, builds_RR3 d r (Bool.and_eq_true_iff.1 hwf)⟩
  | cpc d r | sbc d r | add d r | cpse d r | cp d r | sub d r | adc d r | and_ d r | eor d r | or_ d r | mov d r
  | mul d r => exact ⟨_, rfl, builds_RR d r⟩
  | cpi d k | sbci d k | subi d k | ori d k | andi d k | ldi d k => exact ⟨_, rfl, builds_RI d k hwf⟩
  | lddZ d q | lddY d q => exact ⟨_, rfl, builds_LDD d q⟩
  | stdZ q r => exact ⟨_, rfl, builds_LDD (build := fun r q => .stdZ q r) r q⟩
  | stdY q r => exact ⟨_, rfl, builds_LDD (build := fun r q => .stdY q r) r q⟩
  | lds d k => exact ⟨_, rfl, builds_LS d k⟩
  | sts k r => exact ⟨_, rfl, builds_LS (build := fun r k => .sts k r) r k⟩
  | ldZInc d | ldZDec d | lpmRd d | lpmRdInc d | elpmRd d | elpmRdInc d | ldYInc d | ldYDec d | ldX d | ldXInc d
  | ldXDec d | pop d | stZInc d | stZDec d | stYInc d | stYDec d | stX d | stXInc d | stXDec d | push d | com d | neg d
  | swap d | inc d | asr d | lsr d | ror d | dec d => exact ⟨_, rfl, builds_R1 d⟩
  | bset b | bclr b => exact ⟨_, rfl, builds_Sreg b⟩
  | jmp k | call k => exact ⟨_, rfl, builds_Abs22 k⟩
  | adiw d k | sbiw d k => exact ⟨_, rfl, builds_WI d k hwf⟩
  | cbi a b | sbic a b | sbi a b | sbis a b => exact ⟨_, rfl, builds_IOB a b⟩
  | in_ d a => exact ⟨_, rfl, builds_IO (build := fun a d => .in_ d a) a d⟩
  | out a r => exact ⟨_, rfl, builds_IO a r⟩
  | rjmp k | rcall k => exact ⟨_, rfl, builds_Rel12 k⟩
  | brbs b k | brbc b k => exact ⟨_, rfl, builds_BR b k⟩
  | bld d b | bst d b | sbrc d b | sbrs d b => exact ⟨_, rfl, builds_RB d b⟩
  | _ => cases hcore

/-- Words of a row, low byte first, decode to what the row builds from them, and the rest is left. -/
theorem decodeBytes_of_row {w w2 : Word} {row : OpcodeRow} (hrow : rowOf w = some row)
    (hone : row.twoWords = false → w2 = 0#16) (rest : List Byte) :
    decodeBytes (bytesOfWords (if row.twoWords then [w, w2] else [w]) ++ rest) = .ok (row.build w w2, rest) := by
  cases htwo : row.twoWords with
  | false => simp [bytesOfWords, decodeBytes, Machine.highByte_append_lowByte, hrow, htwo, hone htwo]
  | true => simp [bytesOfWords, decodeBytes, Machine.highByte_append_lowByte, hrow, htwo]

/-- A core instruction is encoded to the words of a row: its pattern in the first, and the row builds it from them. -/
theorem Instr.Core.encode_eq {i : Instr} (h : i.Core) :
    ∃ row ∈ opcodeTable, ∃ w w2, Matches row.mask row.pattern w ∧ (row.twoWords = false → w2 = 0#16) ∧
      row.build w w2 = i ∧ encode i = if row.twoWords then [w, w2] else [w] := by
  obtain ⟨row, hget, w, w2, hm, hone, rfl⟩ := h.row
  have hrow := List.mem_of_getElem? hget
  exact ⟨row, hrow, w, w2, hm, hone, rfl, (opcodeTable_sound row hrow w w2 hm).2⟩

/-- What a well-formed instruction stands for is a core instruction (R117). -/
theorem Instr.expand_core {i : Instr} (h : i.wellFormed = true) : i.expand.Core := by
  cases i <;> exact ⟨h, rfl⟩

/-- The words of an instruction are those of what it stands for; CBR's complement is taken by subtraction (R197). -/
theorem encode_expand (i : Instr) : encode i = encode i.expand := by
  cases i with
  | cbr d k => exact congrArg (fun k => [encodeRI 0b0111#4 d k]) (by bv_omega)
  | _ => rfl

end Sys2Proof

namespace Sys2Proof.Machine

/-- Settles O1: the encoding is the words of a row that builds the instruction, and it is the row the decoder finds. -/
theorem encodedInstructionDecodesToItself : Obligations.EncodedInstructionDecodesToItself := by
  intro i rest hwf
  obtain ⟨row, hrow, w, w2, hm, hone, hbuild, hencode⟩ := (Instr.expand_core hwf).encode_eq
  rw [encode_expand, hencode, decodeBytes_of_row (rowOf_of_matches hrow hm) hone, hbuild]

/-- Settles O5: the encoding is the words of a row, as many as the row has. -/
theorem firstWordTellsTheLength : Obligations.FirstWordTellsTheLength := by
  intro i hwf
  obtain ⟨row, hrow, w, w2, hm, -, -, hencode⟩ := (Instr.expand_core hwf).encode_eq
  rw [firstWord, encode_expand, hencode]
  cases htwo : row.twoWords <;> simp [instrLen_of_matches hrow hm, htwo]

/-- A displacement of 0 is none. -/
theorem State.displaced_zero (s : State) (p : Reg) : s.displaced p 0#6 = s.pair p := BitVec.add_zero _

/-- An instruction does what the one it stands for does: the same effect by definition, but for the displacement 0. -/
theorem exec_expand (i : Instr) (s : State) : exec i s = exec i.expand s := by
  cases i with
  | ldY d | ldZ d => exact congrArg (fun a => orFault (s.load d a 1)) (State.displaced_zero s _).symm
  | stY r | stZ r => exact congrArg (fun a => orFault (s.store a r 1)) (State.displaced_zero s _).symm
  | _ => rfl

/-- Settles O7. -/
theorem aliasMeansItsExpansion : Obligations.AliasMeansItsExpansion :=
  fun i => ⟨encode_expand i, exec_expand i⟩

/-- Without its group an instruction is an unassigned word. -/
theorem ifPresent_of_absent {b : Bool} {i : Instr} {s : State} {k : Host.Outcome State Fault Refusal}
    (h : (!b) = true) : ifPresent b i s k = .fault (.unassignedOpcode s.pc (firstWord i)) :=
  if_neg (by simpa using h)

/-- Settles O20: every instruction of an optional group asks first whether the part has it (R114). -/
theorem absentGroupIsUnassigned : Obligations.AbsentGroupIsUnassigned := by
  intro i s h
  cases i with
  | mul | muls | mulsu | fmul | fmuls | fmulsu | movw | jmp | call | ijmp | icall | eijmp | eicall | elpm | elpmRd
  | elpmRdInc | lpmRd | lpmRdInc | push | pop | spm => exact ifPresent_of_absent h
  | _ => cases h

theorem bytesOfWords_append (ws vs : List Word) :
    bytesOfWords (ws ++ vs) = bytesOfWords ws ++ bytesOfWords vs := by
  induction ws with
  | nil => rfl
  | cons w ws ih => simp [bytesOfWords, ih]

/-- A table word that is an instruction's encoding, with any words after it, decodes to it. -/
theorem decodeTableWord_of_encode {nbits w : Nat} (i : Instr) (ws : List Word) (hwf : i.wellFormed = true := by rfl)
    (h : tableWords nbits w = encode i ++ ws := by rfl) : decodeTableWord nbits w = some i.expand := by
  rw [decodeTableWord, decodeWords, h, bytesOfWords_append, encodedInstructionDecodesToItself i _ hwf]
  rfl

/-- Settles O6: ten of the words are what the encoder writes for their instructions, the last matches no row. -/
theorem specExampleWordsDecode : Obligations.SpecExampleWordsDecode :=
  ⟨decodeTableWord_of_encode (.add 16 17) [0], decodeTableWord_of_encode (.adiw 30 1) [0],
    decodeTableWord_of_encode (.mulsu 16 17) [0], decodeTableWord_of_encode (.lddY 5 63) [0],
    decodeTableWord_of_encode (.brbs 1 (-9)) [0], decodeTableWord_of_encode (.jmp 0x2ABCDE) [],
    decodeTableWord_of_encode (.sts 0x0100 16) [], decodeTableWord_of_encode (.in_ 16 0x3F) [0],
    decodeTableWord_of_encode (.cbi 0x18 7) [0], decodeTableWord_of_encode .spm [0], by rfl⟩

end Sys2Proof.Machine
end

section
/-! SUPPORT. The arithmetic instructions by arithmetic: each flag formula of R140 to R142 said once as a carry, a borrow
or an overflow, for the additions (O21), the subtractions and comparisons (O22 to O25), the 16-bit immediates (O27), INC
and DEC (O28). -/

namespace Sys2Proof.Machine

-- What the operand forms that write a result and SREG leave alone.

/-- The flags outside bs are kept, flag by flag (R26). -/
theorem keepsFlags_iff {bs : List (BitVec 3)} {s t : State} :
    KeepsFlags bs s t ↔
      (0 ∉ bs → flagC t.sreg = flagC s.sreg) ∧ (1 ∉ bs → flagZ t.sreg = flagZ s.sreg) ∧
      (2 ∉ bs → flagN t.sreg = flagN s.sreg) ∧ (3 ∉ bs → flagV t.sreg = flagV s.sreg) ∧
      (4 ∉ bs → flagS t.sreg = flagS s.sreg) ∧ (5 ∉ bs → flagH t.sreg = flagH s.sreg) ∧
      (6 ∉ bs → flagT t.sreg = flagT s.sreg) ∧ (7 ∉ bs → flagI t.sreg = flagI s.sreg) := by
  constructor
  · intro h
    exact ⟨h 0, h 1, h 2, h 3, h 4, h 5, h 6, h 7⟩
  · rintro ⟨h0, h1, h2, h3, h4, h5, h6, h7⟩ b
    have hb : b = 0 ∨ b = 1 ∨ b = 2 ∨ b = 3 ∨ b = 4 ∨ b = 5 ∨ b = 6 ∨ b = 7 := by revert b; decide
    obtain rfl | rfl | rfl | rfl | rfl | rfl | rfl | rfl := hb
    exacts [h0, h1, h2, h3, h4, h5, h6, h7]

/-- The register that a result is written to. -/
theorem State.reg_result_self (s : State) (d : Reg) (v sr : Byte) : (s.result d v sr).reg d = v := by simp

/-- A result is written to one register. -/
theorem keepsRegs_result {s : State} {d : Reg} {v sr : Byte} : KeepsRegs [d] s (s.result d v sr) := by
  intro k hk
  have hne : k ≠ d := by simpa using hk
  simp [hne]

theorem keepsRest_result {s : State} {d : Reg} {v sr : Byte} : KeepsRest s (s.result d v sr) :=
  keepsRest_of (by simp [SameButRegsPc])

theorem keepsRest_flagsOnly {s : State} {sr : Byte} : KeepsRest s (s.flagsOnly sr) :=
  keepsRest_of (by simp [SameButRegsPc])

/-- A 16-bit result is written to the two registers of its pair. -/
theorem keepsRegs_resultPair {s : State} {p : Reg} {v : Word} {sr : Byte} :
    KeepsRegs [p, p + 1] s (s.resultPair p v sr) := by
  intro k hk
  obtain ⟨hlow, hhigh⟩ : k ≠ p ∧ ¬k = p + 1#5 := by simpa using hk
  simp [hlow, hhigh]

theorem keepsRest_resultPair {s : State} {p : Reg} {v : Word} {sr : Byte} : KeepsRest s (s.resultPair p v sr) :=
  keepsRest_of (by simp [SameButRegsPc])

-- Bits and zero by the number.

/-- A bit by the number, for every width. -/
theorem getLsbD_eq_decide {w : Nat} (x : BitVec w) (i : Nat) : x.getLsbD i = decide (x.toNat / 2 ^ i % 2 = 1) :=
  Nat.testBit_eq_decide_div_mod_eq

/-- Z as the flag formulas have it and as the statements do. -/
theorem decide_eq_zero {w : Nat} (x : BitVec w) : decide (x = 0#w) = decide (x.toNat = 0) := by
  simp [← BitVec.toNat_inj]

/-- A bit counts at most 1. -/
theorem bitNat_le_one (c : Bool) : bitNat c ≤ 1 := by cases c <;> decide

-- Addition (R140).

/-- H after an 8-bit addition is the carry out of bit 3 (R140). -/
theorem flagH_add8Flags (sr a b : Byte) (c : Bool) :
    flagH (add8Flags sr a b c) = decide (15 < a.toNat % 16 + b.toNat % 16 + bitNat c) := by
  have hsum := toNat_add8 a b c
  have hc := bitNat_le_one c
  simp only [add8Flags, flagH_sregOf, getLsbD_eq_decide, ← Bool.decide_and, ← Bool.decide_or, ← decide_not,
    decide_eq_decide]
  omega

/-- V after an 8-bit addition is its signed overflow (R140). -/
theorem flagV_add8Flags (sr a b : Byte) (c : Bool) :
    flagV (add8Flags sr a b c) =
      decide (a.toInt + b.toInt + bitNat c < -128 ∨ 127 < a.toInt + b.toInt + bitNat c) := by
  have hsum := toNat_add8 a b c
  have hc := bitNat_le_one c
  have ha := a.isLt
  have hb := b.isLt
  simp only [add8Flags, flagV_sregOf, getLsbD_eq_decide, BitVec.toInt_eq_toNat_cond, ← Bool.decide_and,
    ← Bool.decide_or, ← decide_not, decide_eq_decide]
  omega

/-- The result and SREG of `add8` are what an addition leaves. -/
theorem addOutcome_of_add8 {sr a b v : Byte} {c : Bool} {t : State} (hv : v = add8 a b c)
    (hsr : t.sreg = add8Flags sr a b c) : addOutcome a b c v t := by
  subst hv
  rw [addOutcome, hsr, flagH_add8Flags, flagC_add8Flags, flagV_add8Flags]
  refine ⟨BitVec.eq_of_toNat_eq (toNat_add8 a b c), rfl, rfl, rfl, ?_, ?_, ?_⟩
  · exact flagN_sregOf ..
  · exact (flagZ_sregOf ..).trans (decide_eq_zero _)
  · rw [← flagV_add8Flags sr]
    simp [add8Flags]

/-- An addition leaves I and T (R140). -/
theorem keepsFlags_add8 {a b : Byte} {c : Bool} {s t : State} (h : t.sreg = add8Flags s.sreg a b c) :
    KeepsFlags [0, 1, 2, 3, 4, 5] s t := by
  simp [keepsFlags_iff, h, add8Flags]

/-- What an addition written to register d leaves, with the carry-in c. -/
theorem addOutcome_result (d : Reg) (a b : Byte) (c : Bool) (s : State) :
    let t := s.result d (add8 a b c) (add8Flags s.sreg a b c)
    addOutcome a b c (t.reg d) t ∧ KeepsFlags [0, 1, 2, 3, 4, 5] s t ∧ KeepsRegs [d] s t ∧ KeepsRest s t :=
  ⟨addOutcome_of_add8 (State.reg_result_self ..) rfl, keepsFlags_add8 rfl, keepsRegs_result, keepsRest_result⟩

/-- A byte added to itself moves up by one bit, the carry-in below it. -/
theorem toNat_add8_self (a : Byte) (c : Bool) : (add8 a a c).toNat = (2 * a.toNat + bitNat c) % 256 := by
  rw [toNat_add8, Nat.two_mul]

/-- SREG of a left shift (R192, R193): the carries out of bits 3 and 7 are these bits, and bit 6 becomes the sign. -/
theorem add8Flags_self (sr a : Byte) (c : Bool) :
    add8Flags sr a a c = sregOf (flagI sr) (flagT sr) (a.getLsbD 3) (a.getLsbD 7) (a.getLsbD 6 ^^ a.getLsbD 7)
      (a.getLsbD 6) (decide (add8 a a c = 0#8)) (a.getLsbD 7) := by
  have hsign : (add8 a a c).getLsbD 7 = a.getLsbD 6 := by
    have hsum := toNat_add8_self a c
    have hc := bitNat_le_one c
    simp only [getLsbD_eq_decide, decide_eq_decide]
    omega
  simp only [add8Flags, hsign]
  cases a.getLsbD 3 <;> cases a.getLsbD 7 <;> cases a.getLsbD 6 <;> simp

/-- What a left shift of a with the bit c shifted in leaves in register d (R192, R193). -/
def leftShiftOutcome (d : Reg) (a : Byte) (c : Bool) (s t : State) : Prop :=
  t.reg d = BitVec.ofNat 8 (2 * a.toNat + bitNat c) ∧ flagC t.sreg = a.getLsbD 7 ∧ flagH t.sreg = a.getLsbD 3 ∧
    flagV t.sreg = (flagN t.sreg != flagC t.sreg) ∧ flagS t.sreg = flagC t.sreg ∧ flagN t.sreg = a.getLsbD 6 ∧
    flagZ t.sreg = decide ((t.reg d).toNat = 0) ∧ KeepsFlags [0, 1, 2, 3, 4, 5] s t ∧ KeepsRegs [d] s t ∧ KeepsRest s t

/-- A byte added to itself is shifted left, with its flags (R192, R193). -/
theorem leftShiftOutcome_result (d : Reg) (a : Byte) (c : Bool) (s : State) :
    leftShiftOutcome d a c s (s.result d (add8 a a c) (add8Flags s.sreg a a c)) := by
  refine ⟨?_, ?_, ?_, ?_, ?_, ?_, ?_, keepsFlags_add8 rfl, keepsRegs_result, keepsRest_result⟩
  · rw [State.reg_result_self]
    exact BitVec.eq_of_toNat_eq (toNat_add8_self a c)
  all_goals simp [add8Flags_self, decide_eq_zero]

/-- Settles O21: ADD and ADC by the arithmetic of R140; LSL and ROL add the register to itself. -/
theorem additionsGiveSumAndFlags : Obligations.AdditionsGiveSumAndFlags :=
  fun d _ s => ⟨⟨_, rfl, addOutcome_result d _ _ false s⟩, ⟨_, rfl, addOutcome_result d _ _ _ s⟩,
    ⟨_, rfl, leftShiftOutcome_result d _ false s⟩, ⟨_, rfl, leftShiftOutcome_result d _ _ s⟩⟩

-- Subtraction (R141).

/-- The number of the result of an 8-bit subtraction (R141). -/
theorem toNat_sub8 (a b : Byte) (c : Bool) :
    ((sub8 a b c).toNat : Int) = ((a.toNat : Int) - b.toNat - bitNat c) % 256 := by
  have hb := b.isLt
  have hc := bitNat_le_one c
  simp only [sub8, BitVec.toNat_sub, toNat_carryByte]
  omega

/-- H after an 8-bit subtraction is the borrow into bit 3 (R141). -/
theorem flagH_sub8Flags (sr a b : Byte) (c z : Bool) :
    flagH (sub8Flags sr a b c z) = decide (a.toNat % 16 < b.toNat % 16 + bitNat c) := by
  have hdiff := toNat_sub8 a b c
  have hc := bitNat_le_one c
  simp only [sub8Flags, flagH_sregOf, getLsbD_eq_decide, ← Bool.decide_and, ← Bool.decide_or, ← decide_not,
    decide_eq_decide]
  omega

/-- C after an 8-bit subtraction is the borrow into bit 7 (R141). -/
theorem flagC_sub8Flags (sr a b : Byte) (c z : Bool) :
    flagC (sub8Flags sr a b c z) = decide (a.toNat < b.toNat + bitNat c) := by
  have hdiff := toNat_sub8 a b c
  have hc := bitNat_le_one c
  have ha := a.isLt
  have hb := b.isLt
  simp only [sub8Flags, flagC_sregOf, getLsbD_eq_decide, ← Bool.decide_and, ← Bool.decide_or, ← decide_not,
    decide_eq_decide]
  omega

/-- V after an 8-bit subtraction is its signed overflow (R141). -/
theorem flagV_sub8Flags (sr a b : Byte) (c z : Bool) :
    flagV (sub8Flags sr a b c z) =
      decide (a.toInt - b.toInt - bitNat c < -128 ∨ 127 < a.toInt - b.toInt - bitNat c) := by
  have hdiff := toNat_sub8 a b c
  have hc := bitNat_le_one c
  have ha := a.isLt
  have hb := b.isLt
  simp only [sub8Flags, flagV_sregOf, getLsbD_eq_decide, BitVec.toInt_eq_toNat_cond, ← Bool.decide_and,
    ← Bool.decide_or, ← decide_not, decide_eq_decide]
  omega

/-- S after an 8-bit subtraction is the sign of the difference, taken without wrap (R141). -/
theorem flagS_sub8Flags (sr a b : Byte) (c z : Bool) :
    flagS (sub8Flags sr a b c z) = decide (a.toInt < b.toInt + bitNat c) := by
  have hsign : flagS (sub8Flags sr a b c z) = ((sub8 a b c).getLsbD 7 != flagV (sub8Flags sr a b c z)) := by
    simp [sub8Flags]
  have hdiff := toNat_sub8 a b c
  have hc := bitNat_le_one c
  have ha := a.isLt
  have hb := b.isLt
  rw [hsign, flagV_sub8Flags, Bool.eq_iff_iff]
  simp only [getLsbD_eq_decide, BitVec.toInt_eq_toNat_cond, bne_iff_ne, ne_eq, decide_eq_decide, decide_eq_true_eq]
  omega

/-- The result of an 8-bit subtraction is the difference modulo 256 (R141). -/
theorem sub8_eq_ofInt (a b : Byte) (c : Bool) :
    sub8 a b c = BitVec.ofInt 8 ((a.toNat : Int) - b.toNat - bitNat c) := by
  apply BitVec.eq_of_toNat_eq
  have hdiff := toNat_sub8 a b c
  rw [BitVec.toNat_ofInt]
  omega

/-- The result and SREG of `sub8` are what a subtraction leaves. -/
theorem subOutcome_of_sub8 {sr a b v : Byte} {c keepZ : Bool} {t : State} (hv : v = sub8 a b c)
    (hsr : t.sreg = sub8Flags sr a b c keepZ) : subOutcome a b c (!keepZ || flagZ sr) v t := by
  subst hv
  rw [subOutcome, hsr, flagH_sub8Flags, flagC_sub8Flags, flagV_sub8Flags]
  refine ⟨sub8_eq_ofInt a b c, rfl, rfl, rfl, ?_, ?_, ?_⟩
  · exact flagN_sregOf ..
  · simp only [sub8Flags, flagZ_sregOf, decide_eq_zero]
  · rw [← flagV_sub8Flags sr a b c keepZ]
    simp [sub8Flags]

/-- A subtraction leaves I and T (R141). -/
theorem keepsFlags_sub8 {a b : Byte} {c keepZ : Bool} {s t : State} (h : t.sreg = sub8Flags s.sreg a b c keepZ) :
    KeepsFlags [0, 1, 2, 3, 4, 5] s t := by
  simp [keepsFlags_iff, h, sub8Flags]

/-- What a subtraction written to register d leaves, with the borrow c and a Z that is sticky with `keepZ`. -/
theorem subOutcome_result (d : Reg) (a b : Byte) (c keepZ : Bool) (s : State) :
    let t := s.result d (sub8 a b c) (sub8Flags s.sreg a b c keepZ)
    subOutcome a b c (!keepZ || flagZ s.sreg) (t.reg d) t ∧ KeepsFlags [0, 1, 2, 3, 4, 5] s t ∧ KeepsRegs [d] s t ∧
      KeepsRest s t :=
  ⟨subOutcome_of_sub8 (State.reg_result_self ..) rfl, keepsFlags_sub8 rfl, keepsRegs_result, keepsRest_result⟩

/-- What a comparison leaves. -/
theorem subOutcome_flagsOnly (a b : Byte) (c keepZ : Bool) (s : State) :
    let t := s.flagsOnly (sub8Flags s.sreg a b c keepZ)
    subOutcome a b c (!keepZ || flagZ s.sreg) (sub8 a b c) t ∧ KeepsFlags [0, 1, 2, 3, 4, 5] s t ∧ KeepsRegs [] s t ∧
      KeepsRest s t :=
  ⟨subOutcome_of_sub8 rfl rfl, keepsFlags_sub8 rfl, keepsRegs_of rfl, keepsRest_flagsOnly⟩

/-- SREG of NEG (R153), told from its result r: there is a borrow unless r is 0, an overflow exactly at $80. -/
theorem sub8Flags_zero (sr a : Byte) :
    sub8Flags sr 0#8 a false false =
      let r := sub8 0#8 a false
      sregOf (flagI sr) (flagT sr) (r.getLsbD 3 || a.getLsbD 3) (r.getLsbD 7 ^^ decide (r.toNat = 0x80))
        (decide (r.toNat = 0x80)) (r.getLsbD 7) (decide (r.toNat = 0)) (decide (r.toNat ≠ 0)) := by
  have hneg : ((sub8 0#8 a false).toNat : Int) = -a.toNat % 256 := by simpa [bitNat] using toNat_sub8 0#8 a false
  have ha := a.isLt
  have hcarry : (a.getLsbD 7 || (sub8 0#8 a false).getLsbD 7) = decide ((sub8 0#8 a false).toNat ≠ 0) := by
    simp only [getLsbD_eq_decide, ← Bool.decide_or, decide_eq_decide]
    omega
  have hover : (a.getLsbD 7 && (sub8 0#8 a false).getLsbD 7) = decide ((sub8 0#8 a false).toNat = 0x80) := by
    simp only [getLsbD_eq_decide, ← Bool.decide_and, decide_eq_decide]
    omega
  dsimp only [sub8Flags]
  rw [← hcarry, ← hover, ← decide_eq_zero]
  cases a.getLsbD 3 <;> cases a.getLsbD 7 <;> simp

/-- Settles O22: SUB and SUBI by the arithmetic of R141, NEG by that of a subtraction from 0. -/
theorem subtractionsGiveDifferenceAndFlags : Obligations.SubtractionsGiveDifferenceAndFlags := by
  intro d r k s
  refine ⟨⟨_, rfl, subOutcome_result d _ _ false false s⟩, ⟨_, rfl, subOutcome_result d _ k false false s⟩,
    ⟨_, rfl, ?_, ?_, ?_, ?_, ?_, ?_, ?_, keepsFlags_sub8 rfl, keepsRegs_result, keepsRest_result⟩⟩
  · rw [State.reg_result_self, sub8_eq_ofInt]
    simp [bitNat]
  all_goals simp [sub8Flags_zero]

/-- Settles O23: the subtraction takes C as its borrow and keeps Z. -/
theorem borrowingSubtractionsKeepZeroSticky : Obligations.BorrowingSubtractionsKeepZeroSticky :=
  fun d _ k s => ⟨⟨_, rfl, subOutcome_result d _ _ _ true s⟩, ⟨_, rfl, subOutcome_result d _ k _ true s⟩⟩

/-- Settles O24: the flags are those of the subtraction whose result is written nowhere. -/
theorem comparisonsSetFlagsOnly : Obligations.ComparisonsSetFlagsOnly :=
  fun _ _ k s => ⟨⟨_, _, rfl, subOutcome_flagsOnly _ _ false false s⟩,
    ⟨_, _, rfl, subOutcome_flagsOnly _ k false false s⟩, ⟨_, _, rfl, subOutcome_flagsOnly _ _ _ true s⟩⟩

-- Comparison, then branch (R154, R242).

/-- Z after a comparison without borrow says whether the operands are equal. -/
theorem flagZ_sub8Flags_compare (sr a b : Byte) : flagZ (sub8Flags sr a b false false) = decide (a = b) := by
  have hdiff := toNat_sub8 a b false
  have ha := a.isLt
  have hb := b.isLt
  simp only [bitNat, Bool.false_eq_true, if_false, Nat.cast_zero] at hdiff
  simp only [sub8Flags, flagZ_sregOf, Bool.not_false, Bool.true_or, Bool.and_true]
  rw [decide_eq_zero, decide_eq_decide, ← BitVec.toNat_inj]
  omega

/-- A branch whose flag says whether p holds is taken exactly when p holds (R240, R241). -/
theorem exec_branch_of_decide {i : Instr} {t : State} {k : BitVec 7} {c : Bool} {p : Prop} [Decidable p]
    (h : exec i t = .next (t.branch c k)) (hc : c = decide p) :
    exec i t = .next (if p then { t with pc := pcMod t.part (t.pc + k.signExtend 22 + 1) }
      else { t with pc := pcMod t.part (t.pc + 1) }) := by
  subst hc
  exact h.trans (congrArg _ (if_congr decide_eq_true_iff rfl rfl))

/-- Settles O25: after the comparison Z, C and S say equal, unsigned lower and signed less. -/
theorem compareThenBranchOrders : Obligations.CompareThenBranchOrders := by
  intro d r k s t h
  cases h
  have hZ := flagZ_sub8Flags_compare s.sreg (s.reg d) (s.reg r)
  have hC := flagC_sub8Flags s.sreg (s.reg d) (s.reg r) false false
  have hS := flagS_sub8Flags s.sreg (s.reg d) (s.reg r) false false
  simp only [bitNat, Bool.false_eq_true, if_false, Nat.add_zero, Int.add_zero, Nat.cast_zero] at hC hS
  refine ⟨exec_branch_of_decide rfl hZ, exec_branch_of_decide rfl ?_, exec_branch_of_decide rfl hC,
    exec_branch_of_decide rfl ?_, exec_branch_of_decide rfl hS, exec_branch_of_decide rfl ?_⟩
  · simp [hZ]
  · simp [hC, ← decide_not]
  · simp [hS, ← decide_not]

-- The 16-bit immediates (R142, R145, R150).

/-- The sum with a 6-bit constant, as a number. -/
theorem toNat_add_six (a : Word) (k : BitVec 6) : (a + k.setWidth 16).toNat = (a.toNat + k.toNat) % 65536 := by
  rw [BitVec.toNat_add, BitVec.toNat_setWidth]
  omega

/-- The difference with a 6-bit constant, as a number. -/
theorem toNat_sub_six (a : Word) (k : BitVec 6) :
    ((a - k.setWidth 16).toNat : Int) = ((a.toNat : Int) - k.toNat) % 65536 := by
  rw [BitVec.toNat_sub, BitVec.toNat_setWidth]
  omega

/-- C after ADIW is the carry out of 16 bits (R142). -/
theorem flagC_addwFlags (sr : Byte) (a : Word) (k : BitVec 6) :
    flagC (addwFlags sr a (a + k.setWidth 16)) = decide (65535 < a.toNat + k.toNat) := by
  have hsum := toNat_add_six a k
  simp only [addwFlags, flagC_sregOf, getLsbD_eq_decide, ← Bool.decide_and, ← decide_not, decide_eq_decide]
  omega

/-- V after ADIW is the signed overflow, which the constant allows upwards only (R142). -/
theorem flagV_addwFlags (sr : Byte) (a : Word) (k : BitVec 6) :
    flagV (addwFlags sr a (a + k.setWidth 16)) = decide (32767 < a.toInt + k.toNat) := by
  have hsum := toNat_add_six a k
  simp only [addwFlags, flagV_sregOf, getLsbD_eq_decide, BitVec.toInt_eq_toNat_cond, ← Bool.decide_and, ← decide_not,
    decide_eq_decide]
  omega

/-- C after SBIW is the borrow of 16 bits (R142). -/
theorem flagC_subwFlags (sr : Byte) (a : Word) (k : BitVec 6) :
    flagC (subwFlags sr a (a - k.setWidth 16)) = decide (a.toNat < k.toNat) := by
  have hdiff := toNat_sub_six a k
  simp only [subwFlags, flagC_sregOf, getLsbD_eq_decide, ← Bool.decide_and, ← decide_not, decide_eq_decide]
  omega

/-- V after SBIW is the signed overflow, which the constant allows downwards only (R142). -/
theorem flagV_subwFlags (sr : Byte) (a : Word) (k : BitVec 6) :
    flagV (subwFlags sr a (a - k.setWidth 16)) = decide (a.toInt - k.toNat < -32768) := by
  have hdiff := toNat_sub_six a k
  simp only [subwFlags, flagV_sregOf, getLsbD_eq_decide, BitVec.toInt_eq_toNat_cond, ← Bool.decide_and, ← decide_not,
    decide_eq_decide]
  omega

/-- Settles O27: the two 16-bit operations on the pair, each with its carry or borrow and its overflow. -/
theorem wordImmediatesWorkOnThePair : Obligations.WordImmediatesWorkOnThePair := by
  intro d k s _
  constructor
  · refine ⟨_, rfl, ?_, flagC_addwFlags .., ?_, ?_, keepsRegs_resultPair, keepsRest_resultPair⟩
    · rw [State.pair_resultPair, toNat_add_six]
    · refine ⟨flagV_addwFlags .., ?_⟩
      simp [addwFlags, decide_eq_zero]
    · simp [keepsFlags_iff, addwFlags]
  · refine ⟨_, rfl, ?_, flagC_subwFlags .., ?_, ?_, keepsRegs_resultPair, keepsRest_resultPair⟩
    · rw [State.pair_resultPair, toNat_sub_six]
    · refine ⟨flagV_subwFlags .., ?_⟩
      simp [subwFlags, decide_eq_zero]
    · simp [keepsFlags_iff, subwFlags]

-- INC and DEC (R151, R152).

/-- What writing a result v with the flags of INC and DEC leaves, pv being the overflow and pz what makes v zero. -/
theorem stepOutcome_result (d : Reg) (v : Byte) (s : State) {ov : Bool} {pv pz : Prop} [Decidable pv] [Decidable pz]
    (hov : ov = decide pv) (hz : v.toNat = 0 ↔ pz) :
    let t := s.result d v (stepFlags s.sreg v ov)
    flagV t.sreg = decide pv ∧ flagN t.sreg = decide ((t.reg d).toInt < 0) ∧ flagZ t.sreg = decide pz ∧
      flagS t.sreg = (flagN t.sreg != flagV t.sreg) ∧ KeepsFlags [1, 2, 3, 4] s t ∧ KeepsRegs [d] s t ∧
      KeepsRest s t := by
  have hsign : v.getLsbD 7 = decide (v.toInt < 0) := v.msb_eq_toInt
  refine ⟨?_, ?_, ?_, ?_, ?_, keepsRegs_result, keepsRest_result⟩
  · simp [stepFlags, hov]
  · rw [State.reg_result_self, ← hsign]
    exact flagN_sregOf ..
  · simp [stepFlags, decide_eq_zero, hz]
  · simp [stepFlags]
  · simp [keepsFlags_iff, stepFlags]

/-- Settles O28: both ends of the signed range are where INC and DEC overflow; 255 and 1 are where they reach 0. -/
theorem incrementAndDecrementKeepCarries : Obligations.IncrementAndDecrementKeepCarries := by
  intro d s
  have hlt := (s.reg d).isLt
  have hinc : (s.reg d + 1).toNat = ((s.reg d).toNat + 1) % 256 := BitVec.toNat_add ..
  have hdec : ((s.reg d - 1).toNat : Int) = ((s.reg d).toNat - 1) % 256 := by
    have hone : (1 : Byte).toNat = 1 := rfl
    rw [BitVec.toNat_sub, hone]
    omega
  refine ⟨⟨_, rfl, ?_, stepOutcome_result d _ s ?_ ?_⟩, ⟨_, rfl, ?_, stepOutcome_result d _ s ?_ ?_⟩⟩
  · rw [State.reg_result_self, hinc]
  · exact decide_eq_decide.2 BitVec.toInt_inj.symm
  · omega
  · rw [State.reg_result_self, hdec]
  · exact decide_eq_decide.2 BitVec.toInt_inj.symm
  · omega

end Sys2Proof.Machine
end

section
/-! SUPPORT. The products (O29) and the fractional products (O30): the 16-bit words of R158 to R163 as products of
numbers, and the pair R1:R0 with C and Z after them. -/

namespace Sys2Proof.Machine

-- The products as numbers (R158 to R160).

/-- A byte read as unsigned, in 16 bits. -/
theorem setWidth_eq_ofNat (a : Byte) : a.setWidth 16 = BitVec.ofNat 16 a.toNat := (BitVec.ofNat_toNat ..).symm

/-- The product of unsigned bytes (R158). -/
theorem mulUU_eq_ofNat (a b : Byte) : mulUU a b = BitVec.ofNat 16 (a.toNat * b.toNat) := by
  rw [mulUU, setWidth_eq_ofNat, setWidth_eq_ofNat, BitVec.ofNat_mul]

/-- The product of signed bytes, modulo 2^16 (R159). -/
theorem mulSS_eq_ofInt (a b : Byte) : mulSS a b = BitVec.ofInt 16 (a.toInt * b.toInt) := (BitVec.ofInt_mul ..).symm

/-- The product of a signed and an unsigned byte, modulo 2^16 (R160). -/
theorem mulSU_eq_ofInt (a b : Byte) : mulSU a b = BitVec.ofInt 16 (a.toInt * b.toNat) := by
  rw [BitVec.ofInt_mul, BitVec.ofInt_natCast, ← setWidth_eq_ofNat]
  rfl

/-- What a product leaves in R1:R0 and SREG (R157). -/
theorem mulOutcome_resultPair (s : State) {r r' : Word} {c c' : Bool} (hr : r' = r) (hc : c' = c) :
    mulOutcome r' c' s (s.resultPair 0#5 r (mulFlags s.sreg r c)) := by
  subst hr hc
  refine ⟨?_, ?_, ?_, ?_, ?_, keepsRegs_resultPair, keepsRest_resultPair⟩
  · simp
  · simp
  · simp [mulFlags]
  · simp [mulFlags, decide_eq_zero]
  · simp [keepsFlags_iff, mulFlags]

/-- Settles O29: the three 16-bit products are those of the numbers that the instructions read. -/
theorem productsGoToR1R0 : Obligations.ProductsGoToR1R0 :=
  fun _ _ s hmul => ⟨⟨_, _, ifPresent_of hmul, mulUU_eq_ofNat .., mulOutcome_resultPair s rfl rfl⟩,
    ⟨_, _, ifPresent_of hmul, mulSS_eq_ofInt .., mulOutcome_resultPair s rfl rfl⟩,
    ⟨_, _, ifPresent_of hmul, mulSU_eq_ofInt .., mulOutcome_resultPair s rfl rfl⟩⟩

-- The products doubled (R161 to R163).

/-- A shift by one bit doubles. -/
theorem shiftLeft_one_eq_mul (p : Word) : p <<< 1 = 2#16 * p :=
  (BitVec.shiftLeft_eq_mul_twoPow p 1).trans (BitVec.mul_comm ..)

/-- Twice an unsigned product, modulo 2^16. -/
theorem mulUU_doubled (a b : Byte) : BitVec.ofNat 16 (2 * (a.toNat * b.toNat)) = mulUU a b <<< 1 := by
  rw [shiftLeft_one_eq_mul, mulUU_eq_ofNat, BitVec.ofNat_mul 2]

/-- Twice a signed number, modulo 2^16. -/
theorem ofInt_doubled (n : Int) : BitVec.ofInt 16 (2 * n) = BitVec.ofInt 16 n <<< 1 := by
  rw [shiftLeft_one_eq_mul, BitVec.ofInt_mul]
  rfl

/-- Bit 15 of an unsigned product, which 16 bits hold. -/
theorem getLsbD_fifteen_mulUU (a b : Byte) : (mulUU a b).getLsbD 15 = decide (32768 ≤ a.toNat * b.toNat) := by
  have hlt : a.toNat * b.toNat < 2 ^ 16 := BitVec.toNat_mul_toNat_lt
  rw [mulUU_eq_ofNat, getLsbD_eq_decide, BitVec.toNat_ofNat, Nat.mod_eq_of_lt hlt, decide_eq_decide]
  omega

/-- Bit 15 of a number that 16 bits hold in two's complement is its sign. -/
theorem getLsbD_fifteen_ofInt {n : Int} (hlow : -32768 ≤ n) (hhigh : n < 32768) :
    (BitVec.ofInt 16 n).getLsbD 15 = decide (n < 0) := by
  have hmsb : (BitVec.ofInt 16 n).msb = _ := BitVec.msb_eq_toInt
  rwa [BitVec.toInt_ofInt_eq_self (by decide) hlow hhigh] at hmsb

/-- Bit 15 of a signed product is its sign. -/
theorem getLsbD_fifteen_mulSS (a b : Byte) : (mulSS a b).getLsbD 15 = decide (a.toInt * b.toInt < 0) := by
  have hlow : -2 ^ 14 ≤ a.toInt * b.toInt := BitVec.le_toInt_mul_toInt
  have hhigh : a.toInt * b.toInt ≤ 2 ^ 14 := BitVec.toInt_mul_toInt_le
  rw [mulSS_eq_ofInt, getLsbD_fifteen_ofInt (by omega) (by omega)]

/-- Bit 15 of a product of a signed and an unsigned byte is its sign. -/
theorem getLsbD_fifteen_mulSU (a b : Byte) : (mulSU a b).getLsbD 15 = decide (a.toInt * b.toNat < 0) := by
  have hlow : -2 ^ 7 ≤ a.toInt := a.le_toInt
  have hhigh : a.toInt < 2 ^ 7 := BitVec.toInt_lt
  have hb := b.isLt
  rw [mulSU_eq_ofInt, getLsbD_fifteen_ofInt (by nlinarith) (by nlinarith)]

/-- Settles O30: the doubled products, with the sign or the top bit of the product itself as C. -/
theorem fractionalProductsAreDoubled : Obligations.FractionalProductsAreDoubled := by
  intro d r s hmul
  refine ⟨⟨_, ifPresent_of hmul, mulOutcome_resultPair s (mulUU_doubled ..) (getLsbD_fifteen_mulUU ..).symm⟩,
    ⟨_, ifPresent_of hmul, mulOutcome_resultPair s ?_ (getLsbD_fifteen_mulSS ..).symm⟩,
    ⟨_, ifPresent_of hmul, mulOutcome_resultPair s ?_ (getLsbD_fifteen_mulSU ..).symm⟩⟩
  · rw [ofInt_doubled, mulSS_eq_ofInt]
  · rw [ofInt_doubled, mulSU_eq_ofInt]

end Sys2Proof.Machine
end

section
/-! SUPPORT. The logic instructions (O31, O32), the right shifts (O33) and the moves (O34): the one-word forms, and what
each of the flag formulas of R180 and R181 and a plain move leave. -/

namespace Sys2Proof.Machine

-- The instructions of one word and one cycle.

/-- A form that admits every operand. -/
theorem formOf_all {i : Instr} {w : Word} (hword : encode i = [w]) (hwf : i.wellFormed = true)
    (hcycles : ∀ s, cycles i s = 1) : formOf i w True :=
  ⟨hword, iff_of_true hwf trivial, hcycles⟩

/-- A form that admits the registers from R16 on (R22). -/
theorem formOf_upper {i : Instr} {d : Reg} {w : Word} (hword : encode i = [w]) (hwf : i.wellFormed = d.isUpper)
    (hcycles : ∀ s, cycles i s = 1) : formOf i w (16 ≤ d.toNat) :=
  ⟨hword, hwf ▸ decide_eq_true_iff, hcycles⟩

/-- The even registers by the number (R22). -/
theorem isEven_iff {d : Reg} : d.isEven = true ↔ d.toNat % 2 = 0 := by
  simp only [Reg.isEven, getLsbD_eq_decide, Bool.not_eq_true', decide_eq_false_iff_not]
  omega

-- Logic (R181 to R187).

/-- A result v' written with the flags of R181 is what a logic operation leaves. -/
theorem logicOutcome_result {d : Reg} {v v' : Byte} {s : State} (hv : v' = v) :
    logicOutcome d v s (s.result d v' (logicFlags s.sreg v')) := by
  subst hv
  refine ⟨State.reg_result_self .., ?_, ?_, ?_, ?_, ?_, keepsRegs_result, keepsRest_result⟩
  · exact flagV_sregOf ..
  · exact flagN_sregOf ..
  · exact (flagZ_sregOf ..).trans (decide_eq_zero _)
  · exact flagS_sregOf ..
  · simp [keepsFlags_iff, logicFlags]

/-- Settles O31: every result is an operation on the bits; CBR takes K complemented, TST and CLR take Rd twice. -/
theorem logicInstructionsBitByBit : Obligations.LogicInstructionsBitByBit := by
  intro d r k s
  refine ⟨formOf_all rfl rfl fun _ => rfl, formOf_all rfl rfl fun _ => rfl, formOf_all rfl rfl fun _ => rfl,
    formOf_upper rfl rfl fun _ => rfl, formOf_upper rfl rfl fun _ => rfl,
    ⟨_, _, rfl, logicOutcome_result rfl, fun _ _ => BitVec.getLsbD_and⟩,
    ⟨_, _, rfl, logicOutcome_result rfl, fun _ _ => BitVec.getLsbD_or⟩,
    ⟨_, _, rfl, logicOutcome_result rfl, fun _ _ => BitVec.getLsbD_xor⟩,
    ⟨_, _, rfl, logicOutcome_result rfl, fun _ _ => BitVec.getLsbD_and⟩,
    ⟨_, _, rfl, logicOutcome_result rfl, fun _ _ => BitVec.getLsbD_or⟩,
    ⟨_, _, rfl, logicOutcome_result rfl, fun n hn => ?_⟩,
    ⟨_, _, rfl, logicOutcome_result rfl, fun _ _ => BitVec.getLsbD_or⟩,
    ⟨_, rfl, logicOutcome_result BitVec.and_self⟩, ⟨_, rfl, logicOutcome_result BitVec.xor_self⟩⟩
  rw [BitVec.getLsbD_and, BitVec.getLsbD_not, decide_eq_true hn, Bool.true_and]

/-- The subtraction of R187 complements every bit. -/
theorem sub_eq_not (a : Byte) : 0xFF#8 - a = ~~~a := BitVec.allOnes_sub_eq_not ..

/-- The complement of a byte as a number. -/
theorem toNat_complement (a : Byte) : (0xFF#8 - a).toNat = 255 - a.toNat := by
  have ha := a.isLt
  bv_omega

/-- Settles O32: the subtraction from $FF complements each bit, and is 0 exactly where Rd held $FF. -/
theorem complementSetsCarry : Obligations.ComplementSetsCarry := by
  intro d s
  refine ⟨formOf_all rfl rfl fun _ => rfl, _, rfl, ?_, fun n hn => ?_, ?_, ?_, ?_, ?_, ?_, ?_, keepsRegs_result,
    keepsRest_result⟩
  · rw [State.reg_result_self, toNat_complement]
  · rw [State.reg_result_self, sub_eq_not, BitVec.getLsbD_not, decide_eq_true hn, Bool.true_and]
  · exact flagC_sregOf ..
  · exact flagV_sregOf ..
  · rw [State.reg_result_self]
    exact flagN_sregOf ..
  · have ha := (s.reg d).isLt
    have hz : (0xFF#8 - s.reg d).toNat = 0 ↔ (s.reg d).toNat = 255 := by
      rw [toNat_complement]
      omega
    exact (flagZ_sregOf ..).trans ((decide_eq_zero _).trans (decide_eq_decide.2 hz))
  · rw [State.reg_result_self]
    exact flagS_sregOf ..
  · simp [keepsFlags_iff, comFlags]

-- Right shifts (R180, R188 to R190).

/-- A result written with the flags of R180 is what a right shift of a leaves. -/
theorem shiftOutcome_result (d : Reg) (a v : Byte) (s : State) :
    shiftOutcome d a v s (s.result d v (shrFlags s.sreg v (a.getLsbD 0))) := by
  refine ⟨State.reg_result_self .., ?_, ?_, ?_, ?_, ?_, ?_, keepsRegs_result, keepsRest_result⟩
  · exact flagC_sregOf ..
  · exact flagN_sregOf ..
  · exact (flagZ_sregOf ..).trans (decide_eq_zero _)
  · exact flagV_sregOf ..
  · simp [shrFlags]
  · simp [keepsFlags_iff, shrFlags]

/-- Bits 7..1 of a byte below a bit shifted in, as a number. -/
theorem toNat_shiftedIn (x : BitVec 1) (a : Byte) :
    (x ++ a.extractLsb' 1 7).toNat = a.toNat / 2 + 128 * x.toNat := by
  have ha := a.isLt
  rw [toNat_append_eq, BitVec.extractLsb'_toNat, Nat.shiftRight_eq_div_pow]
  omega

/-- A byte shifted right below a copy of its sign is half its signed value, rounded down (R188). -/
theorem toInt_signShiftedIn (a : Byte) : (a.extractLsb' 7 1 ++ a.extractLsb' 1 7).toInt = a.toInt / 2 := by
  have ha := a.isLt
  have hsign : (a.extractLsb' 7 1).toNat = a.toNat / 128 % 2 := by
    rw [BitVec.extractLsb'_toNat, Nat.shiftRight_eq_div_pow]
  have hshift := toNat_shiftedIn (a.extractLsb' 7 1) a
  simp only [BitVec.toInt_eq_toNat_cond]
  omega

/-- A bit shifted in counts 1 or 0. -/
theorem toNat_ofBool_eq_bitNat (c : Bool) : (BitVec.ofBool c).toNat = bitNat c := by
  cases c <;> rfl

/-- Settles O33: the three instructions differ in the bit they shift in. -/
theorem rightShiftsHalve : Obligations.RightShiftsHalve := by
  intro d s
  refine ⟨⟨_, _, rfl, shiftOutcome_result d _ _ s, toInt_signShiftedIn _⟩,
    ⟨_, _, rfl, shiftOutcome_result d _ _ s, toNat_shiftedIn 0#1 _⟩,
    ⟨_, _, rfl, shiftOutcome_result d _ _ s, ?_⟩⟩
  rw [toNat_shiftedIn, toNat_ofBool_eq_bitNat]

-- Moves (R191, R196, R290 to R292).

/-- A byte written to a register with SREG kept is a move. -/
theorem moveOutcome_setReg {d : Reg} {v : Byte} {s : State} : moveOutcome d v s ((s.setReg d v).advance 1) := by
  refine ⟨by simp, fun k hk => ?_, keepsFlags_of rfl, keepsRest_of (by simp [SameButRegsPc])⟩
  have hne : k ≠ d := by simpa using hk
  simp [hne]

/-- The two halves of a byte exchanged, as a number (R191). -/
theorem toNat_swapped (a : Byte) :
    (a.extractLsb' 0 4 ++ a.extractLsb' 4 4).toNat = a.toNat % 16 * 16 + a.toNat / 16 := by
  have ha := a.isLt
  rw [toNat_append_eq, BitVec.extractLsb'_toNat, BitVec.extractLsb'_toNat, Nat.shiftRight_zero,
    Nat.shiftRight_eq_div_pow]
  omega

/-- Settles O34: MOVW writes the two bytes of the source pair as it stood before. -/
theorem movesCopyWithoutFlags : Obligations.MovesCopyWithoutFlags := by
  intro d r k s
  refine ⟨formOf_all rfl rfl fun _ => rfl, formOf_upper rfl rfl fun _ => rfl, formOf_upper rfl rfl fun _ => rfl,
    formOf_all rfl rfl fun _ => rfl, ⟨rfl, ?_, fun _ => rfl⟩, ⟨_, rfl, moveOutcome_setReg⟩,
    ⟨_, rfl, moveOutcome_setReg⟩, ⟨_, rfl, moveOutcome_setReg⟩, ⟨_, _, rfl, moveOutcome_setReg, toNat_swapped _⟩,
    fun hmovw _ _ => ⟨_, ifPresent_of hmovw, ?_, ?_, fun j hj => ?_, keepsFlags_of rfl,
      keepsRest_of (by simp [SameButRegsPc])⟩⟩
  · exact Bool.and_eq_true_iff.trans (and_congr isEven_iff isEven_iff)
  · simp [State.pair]
  · simp [State.pair]
  · obtain ⟨hlow, hhigh⟩ : j ≠ d ∧ ¬j = d + 1#5 := by simpa using hj
    simp [hlow, hhigh]

end Sys2Proof.Machine
end

section
/-! SUPPORT. The bit instructions of SREG (O35) and the bit transfers through T (O36): what writing one bit of SREG
leaves, with `irq_delay` as R411 has it, and what the bit of the register and T hold afterwards. -/

namespace Sys2Proof.Machine

-- BSET, BCLR and their names (R210 to R213, R411).

/-- Bit b of SREG written with v, and `irq_delay` as R411 has it: nothing else changes. -/
theorem flagOutcome_of_sregWithBit {s : State} {b : BitVec 3} {v : Bool} {dl : IrqDelay}
    (hdelay : dl = if b = 7 ∧ v = true then .set else s.irqDelay) :
    flagOutcome b v s ({ s with sreg := sregWithBit s.sreg b v, irqDelay := dl }.advance 1) := by
  have hbit := fun k => getLsbD_sregWithBit s.sreg b k v
  refine ⟨(hbit b).trans (if_pos rfl), fun k hk => (hbit k).trans (if_neg ?_), keepsRegs_of rfl,
    keepsMemory_of rfl rfl rfl rfl, ⟨rfl, rfl, rfl, rfl, rfl⟩, ⟨rfl, rfl, rfl⟩, rfl, rfl, rfl, hdelay⟩
  simpa using hk

/-- An instruction that sets bit b of SREG sets `irq_delay` where that bit is I. -/
theorem flagOutcome_of_setFlag {i : Instr} {b : BitVec 3} {s : State} (h : exec i s = .next (s.setFlag b)) :
    ∃ t, exec i s = .next t ∧ flagOutcome b true s t :=
  ⟨_, h, flagOutcome_of_sregWithBit (by simp)⟩

/-- An instruction that clears bit b of SREG leaves `irq_delay`, whatever the bit. -/
theorem flagOutcome_of_clearFlag {i : Instr} {b : BitVec 3} {s : State} (h : exec i s = .next (s.clearFlag b)) :
    ∃ t, exec i s = .next t ∧ flagOutcome b false s t :=
  ⟨_, h, flagOutcome_of_sregWithBit (by simp)⟩

/-- Settles O35: BSET and the first eight names set their bit, BCLR and the last eight clear it. -/
theorem flagInstructionsChangeOneBit : Obligations.FlagInstructionsChangeOneBit :=
  fun _ _ => ⟨flagOutcome_of_setFlag rfl, flagOutcome_of_clearFlag rfl,
    flagOutcome_of_setFlag rfl, flagOutcome_of_setFlag rfl, flagOutcome_of_setFlag rfl, flagOutcome_of_setFlag rfl,
    flagOutcome_of_setFlag rfl, flagOutcome_of_setFlag rfl, flagOutcome_of_setFlag rfl, flagOutcome_of_setFlag rfl,
    flagOutcome_of_clearFlag rfl, flagOutcome_of_clearFlag rfl, flagOutcome_of_clearFlag rfl,
    flagOutcome_of_clearFlag rfl, flagOutcome_of_clearFlag rfl, flagOutcome_of_clearFlag rfl,
    flagOutcome_of_clearFlag rfl, flagOutcome_of_clearFlag rfl⟩

-- BLD and BST (R214, R215).

/-- Settles O36: BST writes SREG with T replaced, and BLD is a move to Rd of its own byte with bit b replaced. -/
theorem bitTransferThroughT : Obligations.BitTransferThroughT := by
  intro d b s
  have hbit := getLsbD_byteWithBit (s.reg d) b (flagT s.sreg)
  obtain ⟨hreg, hregs, hflags, hrest⟩ :=
    moveOutcome_setReg (d := d) (v := byteWithBit (s.reg d) b (flagT s.sreg)) (s := s)
  refine ⟨formOf_all rfl rfl fun _ => rfl, formOf_all rfl rfl fun _ => rfl,
    ⟨_, rfl, flagT_sregOf .., ?_, keepsRegs_of rfl, keepsRest_flagsOnly⟩,
    ⟨_, rfl, ?_, fun n hn hne => ?_, hregs, hflags, hrest⟩⟩
  · simp [keepsFlags_iff, withT]
  · rw [hreg, hbit _ b.isLt, if_pos rfl]
  · rw [hreg, hbit n hn, if_neg hne]

end Sys2Proof.Machine
end

section
/-! SUPPORT. Branches (O39), jumps (O40) and skips (O44, O45): the reduction of pc in numbers, and what an instruction
leaves that changes pc alone or reads one SFR besides. -/

namespace Sys2Proof.Machine

-- pc in numbers (R8, R24, R106).

/-- Reducing pc is the remainder by 2^`PC_BITS` (R24). -/
theorem toNat_pcMod (p : Part) (a : PcWord) : (pcMod p a).toNat = a.toNat % pcSpan p := by
  have ha := a.isLt
  unfold pcMod pcSpan
  cases p.pcWidth with
  | bits16 =>
    simp only [BitVec.toNat_setWidth, BitVec.extractLsb'_toNat, Nat.shiftRight_zero]
    omega
  | bits22 => exact (Nat.mod_eq_of_lt ha).symm

/-- 2^`PC_BITS` divides 2^22. -/
theorem pcSpan_dvd (p : Part) : pcSpan p ∣ 2 ^ 22 := by
  unfold pcSpan
  cases p.pcWidth <;> decide

/-- A target given as a number, reduced to a pc. -/
theorem toNat_pcMod_ofNat (p : Part) (x : Nat) : (pcMod p (BitVec.ofNat 22 x)).toNat = x % pcSpan p := by
  rw [toNat_pcMod, BitVec.toNat_ofNat, Nat.mod_mod_of_dvd _ (pcSpan_dvd p)]

/-- A target given as an integer, reduced to a pc. -/
theorem toNat_pcMod_ofInt (p : Part) (x : Int) :
    ((pcMod p (BitVec.ofInt 22 x)).toNat : Int) = x % (pcSpan p : Int) := by
  rw [toNat_pcMod, Int.natCast_mod, BitVec.toNat_ofInt, Int.toNat_of_nonneg (Int.emod_nonneg _ (by decide)),
    Int.emod_emod_of_dvd _ (Int.natCast_dvd_natCast.2 (pcSpan_dvd p))]

/-- The same, as the word that holds the remainder. -/
theorem pcMod_ofInt (p : Part) (x : Int) :
    pcMod p (BitVec.ofInt 22 x) = BitVec.ofInt 22 (x % (pcSpan p : Int)) := by
  rw [← toNat_pcMod_ofInt, BitVec.ofInt_natCast, BitVec.ofNat_toNat, BitVec.setWidth_eq]

/-- A PC-relative target is a sum of integers, the offset signed (R106). -/
theorem relativeTarget_eq {w : Nat} (pc : PcWord) (k : BitVec w) :
    pc + k.signExtend 22 + 1 = BitVec.ofInt 22 ((pc.toNat : Int) + k.toInt + 1) := by
  rw [BitVec.ofInt_add, BitVec.ofInt_add, BitVec.ofInt_natCast, BitVec.ofNat_toNat, BitVec.setWidth_eq]
  rfl

-- Branches and jumps (R240 to R246).

/-- A jump changes pc alone. -/
theorem onlyPc_jump (s : State) (a : PcWord) : onlyPc s (s.jump a) :=
  ⟨keepsRegs_of rfl, keepsFlags_of rfl, keepsRest_of (by simp [SameButRegsPc])⟩

/-- A branch goes to pc + k + 1 where it is taken, else to pc + 1. -/
theorem branchOutcome_branch (s : State) (c : Bool) (k : BitVec 7) : branchOutcome c k s (s.branch c k) := by
  cases c with
  | true =>
    refine ⟨?_, onlyPc_jump s (s.target7 k)⟩
    rw [State.branch_pc, if_pos rfl, if_pos rfl, State.target7, relativeTarget_eq, pcMod_ofInt]
  | false =>
    have hnext : s.pc + 1 = BitVec.ofInt 22 ((s.pc.toNat : Int) + 0 + 1) := by
      simpa using relativeTarget_eq s.pc (0#7)
    refine ⟨?_, onlyPc_jump s (s.pc + 1)⟩
    rw [State.branch_pc, if_neg Bool.false_ne_true, if_neg Bool.false_ne_true, hnext, pcMod_ofInt]

/-- An instruction whose meaning is a branch. -/
theorem branchOutcome_of_exec {i : Instr} {s : State} {c : Bool} {k : BitVec 7}
    (h : exec i s = .next (s.branch c k)) : ∃ t, exec i s = .next t ∧ branchOutcome c k s t :=
  ⟨_, h, branchOutcome_branch s c k⟩

/-- Settles O39: each of the branches is `State.branch` by its flag. -/
theorem branchesGoByTheirFlag : Obligations.BranchesGoByTheirFlag :=
  fun _ _ _ => ⟨branchOutcome_of_exec rfl, branchOutcome_of_exec rfl,
    branchOutcome_of_exec rfl, branchOutcome_of_exec rfl, branchOutcome_of_exec rfl, branchOutcome_of_exec rfl,
    branchOutcome_of_exec rfl, branchOutcome_of_exec rfl, branchOutcome_of_exec rfl, branchOutcome_of_exec rfl,
    branchOutcome_of_exec rfl, branchOutcome_of_exec rfl, branchOutcome_of_exec rfl, branchOutcome_of_exec rfl,
    branchOutcome_of_exec rfl, branchOutcome_of_exec rfl, branchOutcome_of_exec rfl, branchOutcome_of_exec rfl,
    branchOutcome_of_exec rfl, branchOutcome_of_exec rfl, branchOutcome_of_exec rfl⟩

/-- The 16 bits of Z are a pc as they stand, whatever `PC_BITS` (R245). -/
theorem zTarget_mod_pcSpan (p : Part) (h l : Byte) :
    (h.toNat * 256 + l.toNat) % pcSpan p = h.toNat * 256 + l.toNat := by
  have hh := h.isLt
  have hl := l.isLt
  apply Nat.mod_eq_of_lt
  unfold pcSpan
  split <;> omega

/-- Settles O40: each jump is `State.jump` to its target, which as a number is reduced modulo 2^`PC_BITS`. -/
theorem jumpsGoToTheirTargets : Obligations.JumpsGoToTheirTargets := by
  intro s
  refine ⟨fun k => ⟨_, rfl, onlyPc_jump s (s.target12 k), ?_⟩,
    fun hjmp k => ⟨_, ifPresent_of hjmp, onlyPc_jump s k, toNat_pcMod s.part k⟩,
    fun hijmp => ⟨_, ifPresent_of hijmp, onlyPc_jump s _, ?_⟩,
    fun hext => ⟨_, ifPresent_of hext, onlyPc_jump s s.extTarget, ?_⟩⟩
  · rw [State.jump_pc, State.target12, relativeTarget_eq, toNat_pcMod_ofInt]
  · rw [State.jump_pc, State.z_setWidth_eq, toNat_pcMod_ofNat, zTarget_mod_pcSpan]
  · rw [State.jump_pc, State.extTarget_eq, toNat_pcMod_ofNat]

-- Skips (R253 to R258, R461).

/-- A skip where the word it needs is in the image: past that instruction when the condition holds, else to it. -/
theorem State.skip_of_ready {s : State} {c : Bool} {w : Word} (h : skipReady c w s) :
    s.skip c = .ok (s.advance (if c then 1 + BitVec.ofNat 22 (instrLen w) else 1)) := by
  cases c with
  | true => simp only [State.skip, State.nextWord, h rfl, if_true, Except.bind]
  | false => rfl

/-- A skip whose condition holds where no word follows (R461). -/
theorem State.skip_fault {s : State} (h : s.progWord (s.pc.toNat + 1) = none) :
    s.skip true = .error (.fetchOutOfRange (pcMod s.part (s.pc + 1))) := by
  simp only [State.skip, State.nextWord, h, if_true, Except.bind, State.pcPlus]

/-- A skip of which the image has the word it needs changes pc alone. -/
theorem skipOutcome_of_ready {s : State} {c : Bool} {w : Word} (h : skipReady c w s) :
    ∃ t, orFault (s.skip c) = .next t ∧ skipOutcome c w s t :=
  ⟨_, orFault_next.2 (State.skip_of_ready h), rfl, onlyPc_jump s _⟩

/-- A skip by a condition c, which holds, as an outcome of an instruction where no word follows. -/
theorem orFault_skip_fault {s : State} {c : Bool} (h : s.progWord (s.pc.toNat + 1) = none) (hc : c = true) :
    orFault (s.skip c) = .fault (.fetchOutOfRange (pcMod s.part (s.pc + 1))) := by
  rw [hc, State.skip_fault h, orFault]

/-- Settles O44: the three instructions are `State.skip` by their condition. -/
theorem registerSkipsPassOneInstruction : Obligations.RegisterSkipsPassOneInstruction :=
  fun _ _ _ _ _ => ⟨skipOutcome_of_ready, skipOutcome_of_ready, skipOutcome_of_ready, fun hnone =>
    ⟨fun heq => orFault_skip_fault hnone (decide_eq_true heq),
      fun hclear => orFault_skip_fault hnone (congrArg (!·) hclear),
      fun hset => orFault_skip_fault hnone hset⟩⟩

/-- The state after a read of SFR n that gave v: the read is seen outside, and `draws` free values have been drawn. -/
def State.afterRead (s : State) (n : Nat) (v : Byte) (draws : Nat) : State :=
  { s with ioLog := s.ioLog ++ [.read n v], draws := draws }

/-- A read of plain storage or of a pin register leaves the machine but for the read seen outside and the draws. -/
theorem State.ioRead_storage_or_pins {s : State} {n : Nat} {v : Byte} (hc : coreSfrAt s.part n = none)
    (hv : sfrKindAt s.part n = some .storage ∧ v = s.sfrByte n ∨
      sfrKindAt s.part n = some .pins ∧ v = Config.pinByte s.draws) :
    ∃ draws, s.ioRead n = .ok (v, s.afterRead n v draws) := by
  obtain ⟨hk, rfl⟩ | ⟨hk, rfl⟩ := hv
  · exact ⟨s.draws, State.ioRead_storage hc hk⟩
  · exact ⟨s.draws + 1, State.ioRead_pins hc hk⟩

/-- The frame of a read that leaves the SFR its byte, with a jump after it. -/
theorem sfrReadFrame_afterRead_jump (s : State) (n : Nat) (v : Byte) (draws : Nat) (a : PcWord) :
    sfrReadFrame n v s ((s.afterRead n v draws).jump a) :=
  ⟨rfl, keepsFlags_of rfl, keepsSram_of rfl _, keepsSfrs_of rfl _, State.imageByte_congr rfl rfl,
    ⟨rfl, rfl, rfl, rfl, rfl⟩, ⟨rfl, rfl, rfl⟩, rfl, rfl⟩

/-- A read that leaves the SFR's byte, then a skip by a condition c of the byte read. -/
theorem sfrSkip_of_ready {s : State} {n : Nat} {v : Byte} {draws : Nat} {w : Word} (c : Byte → Bool)
    (hread : s.ioRead n = .ok (v, s.afterRead n v draws)) (h : skipReady (c v) w s) :
    ∃ t, orFault ((s.ioRead n).bind fun x => x.2.skip (c x.1)) = .next t ∧
      t.pc = pcMod s.part (s.pc + (if c v then 1 + BitVec.ofNat 22 (instrLen w) else 1)) ∧
      sfrReadFrame n v s t ∧ KeepsRegs [] s t ∧ KeepsSfrs [] s t := by
  have hready : skipReady (c v) w (s.afterRead n v draws) := fun hc => (State.progWord_congr rfl rfl _).trans (h hc)
  refine ⟨_, ?_, rfl, sfrReadFrame_afterRead_jump s n v draws _, keepsRegs_of rfl, keepsSfrs_of rfl _⟩
  rw [hread]
  exact orFault_next.2 (State.skip_of_ready hready)

/-- Settles O45: both are one read and a skip, SBIC by the complement of the bit. -/
theorem sfrSkipsReadOnce : Obligations.SfrSkipsReadOnce := by
  intro a b v w s hc hv
  obtain ⟨draws, hread⟩ := State.ioRead_storage_or_pins hc hv
  refine ⟨fun h => ?_, sfrSkip_of_ready (fun x => x.getLsbD b.toNat) hread⟩
  obtain ⟨t, ht, hpc, hframe⟩ := sfrSkip_of_ready (fun x => !x.getLsbD b.toNat) hread h
  refine ⟨t, ht, hpc.trans ?_, hframe⟩
  cases v.getLsbD b.toNat <;> rfl

end Sys2Proof.Machine
end

section
/-! SUPPORT. Loads and stores through the data space, with the address and the pointer of their form (O46, O47): what
the forms do at the address LDS or STS is given (O50), where they stop (O51); a POP after a PUSH (O56), SPM (O60). -/

namespace Sys2Proof.Machine

-- SPM (R320).

/-- Settles O60: the fault is SPM's whole meaning on a part that has it. -/
theorem spmStops : Obligations.SpmStops := fun _ h => ifPresent_of h

-- The check of the data register against the pointer (R293 (e)).

/-- A pointer-updating form whose data register is a byte of the pointer. -/
theorem unlessInPointer_of_mem {p d : Reg} {i : Instr} {s : State} {k : Host.Outcome State Fault Refusal}
    (h : d = p ∨ d = p + 1) :
    unlessInPointer p d i s k = .fault (.undefinedOperandCombination s.pc (firstWord i)) := if_pos (decide_eq_true h)

/-- Settles O51: every form that updates a pointer makes the check first, LPM and ELPM after that of their group. -/
theorem dataRegisterInUpdatedPointerStops : Obligations.DataRegisterInUpdatedPointerStops := by
  intro i p d s hform hmem hpresent
  cases i with
  | ldXInc | ldXDec | stXInc | stXDec | ldYInc | ldYDec | stYInc | stYDec | ldZInc | ldZDec | stZInc | stZDec =>
    cases hform
    exact unlessInPointer_of_mem hmem
  | lpmRdInc | elpmRdInc =>
    cases hform
    exact (ifPresent_of (present_of_not_absent hpresent)).trans (unlessInPointer_of_mem hmem)
  | _ => cases hform

-- PUSH, then POP (R321, R322).

/-- Settles O56, from what PUSH and POP each do (O55): one push down and one pop up is SP itself. -/
theorem popAfterPushGivesTheByte : Obligations.PopAfterPushGivesTheByte := by
  intro r d s t hops hplace hsp hpush
  obtain ⟨hpushSram, -⟩ := pushAndPopMoveTheStackPointer r 0 s hops
  obtain ⟨t', ht, hbyte, htsp, -, -, -, hregs, hflags, ⟨hpart, -⟩, -⟩ := hpushSram hplace
  obtain rfl : t' = t := by rw [hpush] at ht; cases ht; rfl
  obtain ⟨-, hpopPlain, -⟩ := pushAndPopMoveTheStackPointer d (s.reg r) t' (hpart ▸ hops)
  have hback : spMod t'.part (t'.sp + 1) = s.sp := by
    rw [hpart, htsp]
    exact spUp_spDown hsp 1 0
  have hplain : plainByte t' s.sp = some (s.reg r) := by
    simpa only [plainByte, hpart, hplace] using hbyte
  obtain ⟨u, hu, hd, husp, hregs', hflags', -⟩ := hpopPlain (hback ▸ hplain)
  exact ⟨u, hu, hd, husp.trans hback, fun k hk => (hregs' k hk).trans (hregs k List.not_mem_nil),
    fun b hb => (hflags' b hb).trans (hflags b hb)⟩

-- Registers outside a pointer (R21).

/-- A register outside a pair keeps its byte when the pair is written. -/
theorem State.reg_setPair_of_ne {k p : Reg} (s : State) (v : Word) (h : k ≠ p ∧ k ≠ p + 1) :
    (s.setPair p v).reg k = s.reg k := by
  rw [State.reg_setPair, if_neg h.1, if_neg h.2]

/-- A write of a pair leaves the other registers. -/
theorem keepsRegs_setPair (s : State) (p : Reg) (v : Word) : KeepsRegs [p, p + 1] s (s.setPair p v) :=
  fun _ hk => State.reg_setPair_of_ne s v (by simpa using hk)

-- Loads from plain storage (R293 to R303).

/-- New registers and a new pc leave SREG and everything else. -/
theorem keepsFlags_keepsRest_regs_pc (s : State) (rs : Vector Byte 32) (c : PcWord) :
    KeepsFlags [] s { s with regs := rs, pc := c } ∧ KeepsRest s { s with regs := rs, pc := c } :=
  ⟨keepsFlags_of rfl, keepsRest_of (by simp [SameButRegsPc])⟩

/-- A load that leaves the pointer. -/
theorem loadsPlain_of_load {i : Instr} {d : Reg} {a : Word} {n : PcWord} {s : State}
    (h : exec i s = orFault (s.load d a n)) : loadsPlain i d a s [] s := by
  intro v hv
  refine ⟨(s.setReg d v).advance n, by rw [h, State.load, State.memRead_plain hv]; rfl, by simp, by simp,
    fun k hk => ?_, keepsFlags_keepsRest_regs_pc s _ _⟩
  have hne : k ≠ d := by simpa using hk
  simp [hne]

section

variable {i : Instr} {d p : Reg} {s : State}

/-- A post-increment load reads at the old pointer and leaves it plus 1. -/
theorem loadInc_plain {v : Byte} (h : exec i s = unlessInPointer p d i s (orFault (s.loadInc d p)))
    (hfree : d ≠ p ∧ d ≠ p + 1) (hv : plainByte s (s.pair p) = some v) :
    ∃ t, exec i s = .next t ∧ t.reg d = v ∧ t.pair p = s.pair p + 1 ∧ KeepsRegs [d, p, p + 1] s t ∧
      KeepsFlags [] s t ∧ KeepsRest s t := by
  refine ⟨((s.setReg d v).setPair p (s.pair p + 1)).advance 1, ?_, ?_, by simp, fun k hk => ?_,
    keepsFlags_keepsRest_regs_pc s _ _⟩
  · rw [h, unlessInPointer_of hfree, State.loadInc, State.memRead_plain hv]
    rfl
  · rw [State.reg_advance, State.reg_setPair_of_ne _ _ hfree, State.reg_setReg, if_pos rfl]
  · obtain ⟨hd, hp⟩ : k ≠ d ∧ k ≠ p ∧ k ≠ p + 1 := by simpa using hk
    rw [State.reg_advance, State.reg_setPair_of_ne _ _ hp, State.reg_setReg, if_neg hd]

/-- A pre-decrement load writes the pointer minus 1, then reads there. -/
theorem loadsPlain_of_loadDec (h : exec i s = unlessInPointer p d i s (orFault (s.loadDec d p)))
    (hfree : d ≠ p ∧ d ≠ p + 1) :
    loadsPlain i d (s.pair p - 1) (s.setPair p (s.pair p - 1)) [p, p + 1] s := by
  intro v hv
  refine ⟨((s.setPair p (s.pair p - 1)).setReg d v).advance 1, ?_, by simp, fun k _ hk => by simp [hk],
    fun k hk => ?_, keepsFlags_keepsRest_regs_pc s _ _⟩
  · rw [h, unlessInPointer_of hfree, State.loadDec, State.memRead_plain hv]
    rfl
  · obtain ⟨hd, hp⟩ : k ≠ d ∧ k ≠ p ∧ k ≠ p + 1 := by simpa using hk
    rw [State.reg_advance, State.reg_setReg, if_neg hd, State.reg_setPair_of_ne _ _ hp]

end

/-- Settles O46: the forms are three, by what becomes of the pointer. -/
theorem loadsReadTheAddressedByte : Obligations.LoadsReadTheAddressedByte := by
  intro d q k s
  exact ⟨loadsPlain_of_load rfl, loadsPlain_of_load rfl, loadsPlain_of_load rfl, loadsPlain_of_load rfl,
    loadsPlain_of_load rfl, loadsPlain_of_load rfl,
    fun hlow hhigh => ⟨fun _ => loadInc_plain rfl ⟨hlow, hhigh⟩, loadsPlain_of_loadDec rfl ⟨hlow, hhigh⟩⟩,
    fun hlow hhigh => ⟨fun _ => loadInc_plain rfl ⟨hlow, hhigh⟩, loadsPlain_of_loadDec rfl ⟨hlow, hhigh⟩⟩,
    fun hlow hhigh => ⟨fun _ => loadInc_plain rfl ⟨hlow, hhigh⟩, loadsPlain_of_loadDec rfl ⟨hlow, hhigh⟩⟩⟩

-- Stores to SRAM (R293, R304 to R313).

/-- A store at an SRAM address, with the registers that are rs after it: its byte is the only one that changes. -/
theorem storesSram_of_exec {i : Instr} {v : Byte} {a : Word} {ps : List Reg} {s : State} {rs : Vector Byte 32}
    {c : PcWord} (hregs : KeepsRegs ps s { s with regs := rs })
    (h : dataPlace s.part a = .sram →
      exec i s = .next { s with regs := rs, sram := Memory.write none s.sram a.toNat v, pc := c }) :
    storesSram i v a { s with regs := rs } ps s := by
  intro hplace
  obtain ⟨hsp, -, -, hsram, -, hprog, hflags, hhidden, hcontrol, hdelay, hdraws⟩ := storesAt_sram (v := v) hplace
  exact ⟨_, h hplace, Memory.read_write_self_none, hsram, keepsSfrs_of rfl _, hprog, fun _ _ => rfl, hregs, hflags,
    hhidden, ⟨rfl, hdraws, hdelay⟩, hcontrol, hsp⟩

/-- A store that leaves the pointer. -/
theorem storesSram_of_store {i : Instr} {r : Reg} {a : Word} {n : PcWord} {s : State}
    (h : exec i s = orFault (s.store a r n)) : storesSram i (s.reg r) a s [] s :=
  storesSram_of_exec (rs := s.regs) (fun _ _ => rfl) fun hplace => by
    rw [h, State.store, State.memWrite_sram hplace]; rfl

section

variable {i : Instr} {p r : Reg} {s : State}

/-- A post-increment store writes at the old pointer and leaves it plus 1. -/
theorem storesSram_of_storeInc (h : exec i s = unlessInPointer p r i s (orFault (s.storeInc p r)))
    (hfree : r ≠ p ∧ r ≠ p + 1) :
    storesSram i (s.reg r) (s.pair p) (s.setPair p (s.pair p + 1)) [p, p + 1] s :=
  storesSram_of_exec (rs := (s.setPair p (s.pair p + 1)).regs) (keepsRegs_setPair s p _) fun hplace => by
    rw [h, unlessInPointer_of hfree, State.storeInc, State.memWrite_sram hplace]; rfl

/-- A pre-decrement store writes the pointer minus 1, then its register there, which the pointer does not hold. -/
theorem storesSram_of_storeDec (h : exec i s = unlessInPointer p r i s (orFault (s.storeDec p r)))
    (hfree : r ≠ p ∧ r ≠ p + 1) :
    storesSram i (s.reg r) (s.pair p - 1) (s.setPair p (s.pair p - 1)) [p, p + 1] s :=
  storesSram_of_exec (rs := (s.setPair p (s.pair p - 1)).regs) (keepsRegs_setPair s p _) fun hplace => by
    have hwrite := State.memWrite_sram (s := s.setPair p (s.pair p - 1)) (v := s.reg r) hplace
    rw [h, unlessInPointer_of hfree, State.storeDec, State.reg_setPair_of_ne _ _ hfree, hwrite]
    rfl

end

/-- Settles O47: the forms are three, by what becomes of the pointer. -/
theorem storesWriteTheAddressedByte : Obligations.StoresWriteTheAddressedByte := by
  intro r q k s
  exact ⟨storesSram_of_store rfl, storesSram_of_store rfl, storesSram_of_store rfl, storesSram_of_store rfl,
    storesSram_of_store rfl, storesSram_of_store rfl,
    fun hlow hhigh => ⟨storesSram_of_storeInc rfl ⟨hlow, hhigh⟩, storesSram_of_storeDec rfl ⟨hlow, hhigh⟩⟩,
    fun hlow hhigh => ⟨storesSram_of_storeInc rfl ⟨hlow, hhigh⟩, storesSram_of_storeDec rfl ⟨hlow, hhigh⟩⟩,
    fun hlow hhigh => ⟨storesSram_of_storeInc rfl ⟨hlow, hhigh⟩, storesSram_of_storeDec rfl ⟨hlow, hhigh⟩⟩⟩

-- The same access by LDS or STS and through a pointer (R293).

section

variable {i : Instr} {d p : Reg} {a : Word} {n : PcWord} {s t u : State}

/-- What went on by some words from the pc of s, gone on by one word. -/
theorem onlyOneWord_advance (hpart : u.part = s.part) (hpc : u.pc = s.pc) :
    onlyOneWord s (u.advance n) = u.advance 1 := by
  rw [onlyOneWord, ← hpart, ← hpc]; rfl

/-- A load that leaves the pointer. -/
theorem load_one_word (h : orFault (s.load d a n) = .next t) :
    orFault (s.load d a 1) = .next (onlyOneWord s t) := by
  obtain ⟨v, u, hread, rfl⟩ := State.load_ok (orFault_next.1 h)
  obtain ⟨hpart, hpc, -⟩ := State.memRead_frame hread
  rw [onlyOneWord_advance (u := u.setReg d v) hpart hpc, State.load, hread]
  rfl

/-- A post-increment load is the load at the old pointer, with the pointer written last. -/
theorem loadInc_of_load (h : orFault (s.load d (s.pair p) n) = .next t) :
    orFault (s.loadInc d p) = .next ((onlyOneWord s t).setPair p (s.pair p + 1)) := by
  obtain ⟨v, u, hread, rfl⟩ := State.load_ok (orFault_next.1 h)
  obtain ⟨hpart, hpc, -⟩ := State.memRead_frame hread
  rw [onlyOneWord_advance (u := u.setReg d v) hpart hpc, State.loadInc, hread]
  rfl

/-- A pre-decrement load is the load from the state with the decremented pointer. -/
theorem loadDec_of_load (h : orFault ((s.setPair p (s.pair p - 1)).load d (s.pair p - 1) n) = .next t) :
    orFault (s.loadDec d p) = .next (onlyOneWord s t) := load_one_word h

/-- A store that leaves the pointer. -/
theorem store_one_word (h : orFault (s.store a d n) = .next t) :
    orFault (s.store a d 1) = .next (onlyOneWord s t) := by
  obtain ⟨u, hwrite, rfl⟩ := State.store_ok (orFault_next.1 h)
  obtain ⟨hpart, hpc, -⟩ := State.memWrite_frame hwrite
  rw [onlyOneWord_advance hpart hpc, State.store, hwrite]
  rfl

/-- A post-increment store is the store at the old pointer, with the pointer written last. -/
theorem storeInc_of_store (h : orFault (s.store (s.pair p) d n) = .next t) :
    orFault (s.storeInc p d) = .next ((onlyOneWord s t).setPair p (s.pair p + 1)) := by
  obtain ⟨u, hwrite, rfl⟩ := State.store_ok (orFault_next.1 h)
  obtain ⟨hpart, hpc, -⟩ := State.memWrite_frame hwrite
  rw [onlyOneWord_advance hpart hpc, State.storeInc, hwrite]
  rfl

/-- A pre-decrement store is the store from the state with the decremented pointer. -/
theorem storeDec_of_store (h : orFault ((s.setPair p (s.pair p - 1)).store (s.pair p - 1) d n) = .next t) :
    orFault (s.storeDec p d) = .next (onlyOneWord s t) := store_one_word h

end

/-- Settles O50: LDS and STS are the same load and store with two words to go on by. -/
theorem pointerAccessIsDirectAccess : Obligations.PointerAccessIsDirectAccess := by
  intro d q s t
  refine ⟨load_one_word, load_one_word, load_one_word, store_one_word, store_one_word, store_one_word,
    fun p ldInc ldDec stInc stDec hform hlow hhigh => ?_⟩
  have hexec : exec ldInc s = unlessInPointer p d ldInc s (orFault (s.loadInc d p)) ∧
      exec ldDec s = unlessInPointer p d ldDec s (orFault (s.loadDec d p)) ∧
      exec stInc s = unlessInPointer p d stInc s (orFault (s.storeInc p d)) ∧
      exec stDec s = unlessInPointer p d stDec s (orFault (s.storeDec p d)) := by
    simp only [List.mem_cons, Prod.mk.injEq, List.not_mem_nil, or_false] at hform
    obtain ⟨rfl, rfl, rfl, rfl, rfl⟩ | ⟨rfl, rfl, rfl, rfl, rfl⟩ | ⟨rfl, rfl, rfl, rfl, rfl⟩ := hform
    all_goals exact ⟨rfl, rfl, rfl, rfl⟩
  obtain ⟨hldInc, hldDec, hstInc, hstDec⟩ := hexec
  simp only [hldInc, hldDec, hstInc, hstDec, unlessInPointer_of ⟨hlow, hhigh⟩]
  exact ⟨loadInc_of_load, loadDec_of_load, storeInc_of_store, storeDec_of_store⟩

end Sys2Proof.Machine
end

section
/-! SUPPORT. Sleep and stop: what a boundary does without a reset by the watchdog and on a stopped core (O13), and the
instructions that touch the hidden state only (O59). -/

namespace Sys2Proof.Machine

variable {s : State}

-- The boundary of a stopped and of a sleeping core (R351, R353, R404, R419).

/-- A stopped core takes no step. -/
theorem step_of_stopped (hstop : s.stopped = true) : step s = .fault .stopped := if_pos hstop

/-- With no expired watchdog, a core that is not stopped receives the requests and proceeds. -/
theorem step_eq_proceed (hstop : s.stopped = false) (hdog : s.watchdogExpired = false) :
    step s = s.receiveRequests.proceed exec := by
  simp [step, State.boundary, State.watchdogPassed, hstop, hdog]

/-- Asleep, with nothing accepted, a boundary leaves the state as it is. -/
theorem State.proceed_of_asleep {ex : Instr → State → Host.Outcome State Fault Refusal} (haccept : s.accepted = none)
    (hsleep : s.sleeping = true) : s.proceed ex = .next s := by
  simp [State.proceed, haccept, hsleep]

/-- Settles O13: the arrival of requests leaves the core asleep, so it does nothing once they have arrived. -/
theorem sleepingCoreWaitsStoppedCoreStops : Obligations.SleepingCoreWaitsStoppedCoreStops := by
  refine ⟨fun s hstop hdog haccept hsleep => ?_, fun _ => step_of_stopped⟩
  have hasleep : s.receiveRequests.sleeping = true := (State.receiveRequests_sleeping s).trans hsleep
  calc step s = s.receiveRequests.proceed exec := step_eq_proceed hstop hdog
    _ = .next s.receiveRequests := State.proceed_of_asleep haccept hasleep

-- NOP, SLEEP, WDR and BREAK (R350 to R353).

/-- NOP goes on by one word. -/
theorem exec_nop (s : State) : exec .nop s = .next (s.advance 1) := rfl

/-- SLEEP goes on by one word, asleep where it was asleep or MCUCR holds a sleep state. -/
theorem exec_sleep (s : State) :
    exec .sleep s = .next { s.advance 1 with sleeping := s.sleeping || s.part.sleepEnabled.getLsbD s.mcucr.toNat } :=
  rfl

/-- WDR goes on by one word, with the count of a watchdog that is present at zero. -/
theorem exec_wdr (s : State) :
    exec .wdr s = .next { s.advance 1 with wdtCount := if s.part.watchdog = none then s.wdtCount else 0 } := by
  change Host.Outcome.next { s.advance 1 with wdtCount := if s.part.watchdog.isSome then 0 else s.wdtCount } = _
  cases s.part.watchdog with
  | none => rfl
  | some limit => rfl

/-- BREAK is a NOP on a part without a debug system. -/
theorem exec_break_without_ocd (h : s.part.hasOcd = false) : exec .break_ s = .next (s.advance 1) :=
  congrArg Host.Outcome.next (if_neg (ne_true_of_eq_false h))

/-- BREAK stops a part with a debug system. -/
theorem exec_break_with_ocd (h : s.part.hasOcd = true) : exec .break_ s = .next { s with stopped := true } :=
  congrArg Host.Outcome.next (if_pos h)

/-- Settles O59: each instruction's next state is the one its equation gives. -/
theorem systemInstructionsTouchHiddenStateOnly : Obligations.SystemInstructionsTouchHiddenStateOnly := fun s =>
  ⟨⟨_, exec_nop s, rfl⟩, ⟨_, exec_sleep s, rfl⟩, ⟨_, exec_wdr s, rfl⟩,
    fun hocd => ⟨_, exec_break_without_ocd hocd, rfl⟩, fun hocd => ⟨_, exec_break_with_ocd hocd, rfl⟩⟩

end Sys2Proof.Machine
end

section
/-! SUPPORT. Interrupts and the watchdog at a boundary: when an interrupt is accepted, and which one (O10), and when a
step resets the machine (O14). -/

namespace Sys2Proof.Machine

-- The order of the sources (R406).

/-- A source does not go before another when it ranks no better and, at the same rank, has no lower vector. -/
theorem goesBefore_eq_false_iff {b c : IrqSource} :
    goesBefore b c = false ↔ c.rank ≤ b.rank ∧ (c.rank = b.rank → c.vector.toNat ≤ b.vector.toNat) := by
  rw [goesBefore, decide_eq_false_iff_not]
  omega

/-- No source goes before itself. -/
theorem goesBefore_self (c : IrqSource) : goesBefore c c = false :=
  goesBefore_eq_false_iff.2 ⟨le_rfl, fun _ => le_rfl⟩

/-- Of two sources at most one goes before the other. -/
theorem goesBefore_asymm {b c : IrqSource} (h : goesBefore b c = true) : goesBefore c b = false := by
  rw [goesBefore, decide_eq_true_iff] at h
  rw [goesBefore_eq_false_iff]
  omega

/-- What does not go before b, which does not go before c, does not go before c. -/
theorem goesBefore_false_trans {a b c : IrqSource} (hab : goesBefore a b = false) (hbc : goesBefore b c = false) :
    goesBefore a c = false := by
  rw [goesBefore_eq_false_iff] at hab hbc ⊢
  omega

-- Acceptance (R402, R404).

/-- Only an empty list has no candidate of best rank. -/
theorem bestRanked_eq_none_iff {l : List (IrqSource × Nat)} : bestRanked l = none ↔ l = [] := by
  cases l with
  | nil => exact iff_of_true rfl rfl
  | cons c cs =>
    refine iff_of_false ?_ (List.cons_ne_nil c cs)
    rw [bestRanked]
    split
    · simp
    · split <;> simp

/-- The candidate of best rank is one of the list, and none of the list goes before it. -/
theorem bestRanked_spec {l : List (IrqSource × Nat)} {b : IrqSource × Nat} (h : bestRanked l = some b) :
    b ∈ l ∧ ∀ c ∈ l, goesBefore c.1 b.1 = false := by
  induction l generalizing b with
  | nil => cases h
  | cons c cs ih =>
    rw [bestRanked] at h
    split at h
    next hnone =>
      cases h
      simp [bestRanked_eq_none_iff.1 hnone, goesBefore_self]
    next d hbest =>
      obtain ⟨hmem, hleast⟩ := ih hbest
      split at h
      next hbefore =>
        cases h
        exact ⟨List.mem_cons_of_mem c hmem, List.forall_mem_cons.2 ⟨goesBefore_asymm hbefore, hleast⟩⟩
      next hbefore =>
        cases h
        have hrest : ∀ e ∈ cs, goesBefore e.1 c.1 = false := fun e he =>
          goesBefore_false_trans (hleast e he) (eq_false_of_ne_true hbefore)
        exact ⟨List.mem_cons_self, List.forall_mem_cons.2 ⟨goesBefore_self c.1, hrest⟩⟩

/-- The candidates are the sources of the table that request and are enabled, each with its place. -/
theorem State.mem_irqCandidates {s : State} {src : IrqSource} {n : Nat} :
    (src, n) ∈ s.irqCandidates ↔ s.part.irqs[n]? = some src ∧ n ∈ s.irqPending ∧ s.irqEnabled src = true := by
  simp [State.irqCandidates, List.mem_zipIdx_iff_getElem?]

/-- The accepted source is the candidate of best rank, where the core is not stopped, I is set and no delay runs. -/
theorem State.accepted_eq_some_iff {s : State} {c : IrqSource × Nat} :
    s.accepted = some c ↔
      (s.stopped = false ∧ flagI s.sreg = true ∧ s.irqDelay = .off) ∧ bestRanked s.irqCandidates = some c := by
  unfold State.accepted flagI
  cases bestRanked s.irqCandidates <;> simp [and_assoc]

/-- Settles O10: the accepted source is the candidate of best rank, and there is one where any source is a candidate. -/
theorem acceptanceNeedsEnableAndRequest : Obligations.AcceptanceNeedsEnableAndRequest := by
  intro s
  constructor
  · have hsome : (∃ c, bestRanked s.irqCandidates = some c) ↔ ∃ n src, (src, n) ∈ s.irqCandidates := by
      rw [← Option.ne_none_iff_exists', ne_eq, bestRanked_eq_none_iff, List.eq_nil_iff_forall_not_mem, not_forall_not,
        Prod.exists, exists_comm]
    simp only [Option.isSome_iff_exists, State.accepted_eq_some_iff, exists_and_left, hsome, State.mem_irqCandidates,
      and_assoc]
  · intro src n haccept
    obtain ⟨hmem, hfirst⟩ := bestRanked_spec (State.accepted_eq_some_iff.1 haccept).2
    obtain ⟨hsrc, hpending, henabled⟩ := State.mem_irqCandidates.1 hmem
    refine ⟨hsrc, hpending, henabled, fun m other hother hrequests henable => ?_⟩
    exact goesBefore_eq_false_iff.1 (hfirst (other, m) (State.mem_irqCandidates.2 ⟨hother, hrequests, henable⟩))

-- The watchdog's reset (R417, R450).

/-- The watchdog has expired where the part has one and the count has reached its timeout. -/
theorem State.watchdogExpired_iff {s : State} :
    s.watchdogExpired = true ↔ ∃ limit, s.part.watchdog = some limit ∧ limit ≤ s.wdtCount := by
  unfold State.watchdogExpired
  cases s.part.watchdog <;> simp

/-- With an expired watchdog, a core that is not stopped resets where the free value says so; else it receives the
requests and proceeds, one free value spent. -/
theorem step_of_watchdogExpired {s : State} (hstop : s.stopped = false) (hdog : s.watchdogExpired = true) :
    step s =
      if Config.watchdogFires s.draws then .next s.resetInRun else s.drawn.receiveRequests.proceed exec := by
  simp [step, State.boundary, State.watchdogPassed, hstop, hdog]

/-- Settles O14: the state the watchdog may reset to is the reset state of the part and its program image. -/
theorem watchdogResetsOnlyWhenExpired : Obligations.WatchdogResetsOnlyWhenExpired := by
  refine ⟨fun _ => State.watchdogExpired_iff, fun _ => step_eq_proceed, fun s hstop hdog => ?_⟩
  exact ⟨s.resetInRun, step_of_watchdogExpired hstop hdog, rfl, rfl, rfl, rfl, rfl, rfl, rfl, rfl, rfl, rfl, rfl, rfl,
    rfl, rfl⟩

end Sys2Proof.Machine
end
